-- ==== Sys2Proof/Word.lean ====
section
/-!
DEFINITION. The words of the DDCCI-PE block: bytes, opaque identifiers, and the port words its engine is
given or puts out (`30_encoding.md` rules R80 to R83). Where a port carries a record of named fields, the word
is that record: the spec gives the ports as events with fields, not as wires (R30, R33; D1).
-/

namespace Sys2Proof

/-- A byte, 8 bits, bit 7 the most significant (R8). -/
abbrev Byte := BitVec 8

/-- A tag: `TAG_W` bits that the block stores, returns and compares, and never adds, shifts or masks (R31, D5;
DESIGN CHOICE, notes/assumptions/18.md).
Its range is checked against the structural parameter `TAG_W` where a word enters (`Instr.wf`). -/
abbrev Tag := Nat

/-- The transport's error word: `BUSERR_W` opaque bits, copied and never read (R84, R192). -/
abbrev BusErr := Nat

/-- A direction: of a transaction, of a seed, or of an address byte (`00_scope.md` glossary, R51, R100). -/
inductive Dir where
  /-- the write direction, coded 0 (D24) -/
  | write
  /-- the read direction, coded 1 (D24) -/
  | read
deriving DecidableEq, Repr

/-- The fields of one `Cmd` event on the command port (R30, R80). -/
structure CmdWord where
  /-- `cmd_op`, 2 bits, selects the command -/
  op : BitVec 2
  /-- `cmd_tag`, `TAG_W` bits -/
  tag : Tag
  /-- `cmd_control`, 8 bits, the control code -/
  control : Byte
  /-- `cmd_value`, 32 bits, of which the low 16 are used (R161) -/
  value : BitVec 32
deriving DecidableEq, Repr

/-- What the decoder is given: one word of one of the block's encodings. The four encodings share bit
patterns (`cmd_op = 0` and `bus_req_kind = 0` are both a zero), so the port is part of the word. -/
inductive PortWord where
  /-- a word of the command port (R30, R80) -/
  | cmd (c : CmdWord)
  /-- the bytes of an outgoing frame, index 0 first (R73, R74) -/
  | frame (bytes : List Byte)
  /-- the bytes of a read reply, index 0 first (R75) -/
  | reply (bytes : List Byte)
  /-- a word of the transport request port: `bus_req_kind`, `bus_req_len`, `bus_req_data` (R83) -/
  | busReq (kind : BitVec 1) (len : Nat) (data : List Byte)
deriving DecidableEq, Repr

end Sys2Proof
end

