-- ==== Sys2Proof/Config.lean ====
section
/-!
DEFINITION. What an implementation fixes: the wire constants of `30_encoding.md` rule R70, the structural
parameters of `00_scope.md` rule R7 (`QUEUE_DEPTH`, `TAG_W`, `BUSERR_W`), and the values that `State.reset` names
where the spec leaves a parameter OPEN. Every meaning reads the parameters from the state, so that what is
proved holds for every legal value of them.
-/

namespace Sys2Proof.Config

/-- `MAGIC_1`, the first byte of every outgoing frame (R70, R71). -/
def magic1 : Byte := 0x51

/-- `MAGIC_2 = LENGTH_FLAG`, bit 7 of the length byte (R70, R72). -/
def lengthFlag : Byte := 0x80

/-- `WRITE_CMD` (R70). -/
def writeCmd : Byte := 0x03

/-- `READ_CMD` (R70). -/
def readCmd : Byte := 0x01

/-- `REPLY_MARKER` (R70). -/
def replyMarker : Byte := 0x02

/-- The default device address `0x37` (R7, R21, R70). -/
def defaultAddr : BitVec 7 := 0x37

/-- The default of `DELAY_WRITE` and of `DELAY_READ`, 60 ticks (R7, R21). -/
def defaultDelay : Nat := 60

/-- The strap of `READ_TIMEOUT` in `State.reset`: OPEN in the spec, 300 in its vectors (D9).
DESIGN CHOICE, notes/assumptions/1.md. -/
def resetReadTimeout : Nat := 300

/-- The strap of `MAX_DATA_LEN` in `State.reset`: OPEN in the spec, 35 suggested (D12).
DESIGN CHOICE, notes/assumptions/1.md. -/
def resetMaxDataLen : BitVec 7 := 35

/-- The strap of `STRICT_LENGTH_FLAG` in `State.reset`: OPEN in the spec, 0 reproduces the source (D11).
DESIGN CHOICE, notes/assumptions/1.md. -/
def resetStrictLengthFlag : Bool := false

/-- The structural parameters of R7, constant for one implementation. -/
structure Params where
  /-- `QUEUE_DEPTH`, the number of queue slots (D7) -/
  queueDepth : Nat
  /-- `TAG_W`, the width of a tag in bits (D5) -/
  tagW : Nat
  /-- `BUSERR_W`, the width of the transport error word in bits (D6) -/
  buserrW : Nat
deriving DecidableEq, Repr

/-- The legal ranges of the structural parameters: each at least 1 (R7). -/
abbrev Params.Legal (p : Params) : Prop :=
  1 ≤ p.queueDepth ∧ 1 ≤ p.tagW ∧ 1 ≤ p.buserrW

/-- The suggested structural parameters, 8, 8 and 8 (R7). DESIGN CHOICE for `State.reset`,
notes/assumptions/2.md. -/
def suggestedParams : Params := { queueDepth := 8, tagW := 8, buserrW := 8 }

end Sys2Proof.Config
end

