-- ==== Sys2Proof/Machine/Operands.lean ====
section
/-!
DEFINITION. The pure functions of ChecksumCodec and FrameBuilder: the seed and the checksum (`40_checksum.md`),
the assembly of operands (`30_encoding.md` rule R77), the two frame builders and the seven validation steps of a
reply (`41_frames.md`). None reads or writes a register of the block.
-/

namespace Sys2Proof.Machine

/-- The ten completion statuses (R190). -/
inductive Status where
  /-- success (R191) -/
  | ok
  /-- transport-level failure (R192) -/
  | busError
  /-- the reply's first byte is not the read address byte (R193) -/
  | ackInvalid
  /-- the reply's length byte is not acceptable (R194) -/
  | malformedLength
  /-- the recomputed checksum differs from the received one (R195) -/
  | checksumError
  /-- the first data byte is not the reply marker (R196) -/
  | unexpectedReplyType
  /-- the reply carries another control code (R197) -/
  | controlMismatch
  /-- the reply is too short (R198) -/
  | truncatedResponse
  /-- withdrawn from the queue (R199) -/
  | cancelled
  /-- no reply within the bound (R200) -/
  | timeout
deriving DecidableEq, Repr

/-- A ReadResult, `value` and `max_value`, 16 bits each (R31, R122). -/
structure ReadResult where
  /-- the control's present value -/
  value : BitVec 16
  /-- the control's largest value -/
  maxValue : BitVec 16
deriving DecidableEq, Repr

/-! ### Seed and checksum (R51, R100, R101) -/

/-- `seed(address, direction)`, which is also the address byte of that direction (R51, R100). -/
def seed (addr : BitVec 7) : Dir → Byte
  | .write => addr.zeroExtend 8 <<< 1
  | .read => addr.zeroExtend 8 <<< 1 ||| 0x01

/-- `xor_fold(seed, bytes)` (R9). -/
def xorFold (start : Byte) (bytes : List Byte) : Byte :=
  bytes.foldl (fun acc b => acc ^^^ b) start

/-- `checksum(bytes, seed)` (R101). -/
def checksum (bytes : List Byte) (start : Byte) : Byte := xorFold start bytes

/-! ### Operand assembly (R53, R77, R161) -/

/-- `value[15:8]`. -/
def hiByte (v : BitVec 16) : Byte := v.extractLsb' 8 8

/-- `value[7:0]`. -/
def loByte (v : BitVec 16) : Byte := v.extractLsb' 0 8

/-- `(hi << 8) | lo` at 16 bits: big-endian assembly (R53, R122). -/
def be16 (hi lo : Byte) : BitVec 16 := hi.zeroExtend 16 <<< 8 ||| lo.zeroExtend 16

/-- `trunc_16(cmd_value)`: bits 31 to 16 are dropped (R161). -/
def trunc16 (v : BitVec 32) : BitVec 16 := v.extractLsb' 0 16

/-- The length byte of a frame with `n` payload bytes, `0x80 | n` (R72). -/
def lengthByte (n : Nat) : Byte := Config.lengthFlag ||| BitVec.ofNat 8 n

/-- `data_length = raw & 0x7F`, all seven low bits (R72, R115). -/
def dataLengthOf (l : Byte) : BitVec 7 := l.extractLsb' 0 7

/-! ### Building (R110 to R112) -/

/-- The bytes of a frame before its checksum (R110). -/
def framePrefix (payload : List Byte) : List Byte :=
  Config.magic1 :: lengthByte payload.length :: payload

/-- `build_frame(payload, direction)`: the checksum is the last byte (R102, R110). -/
def buildFrame (addr : BitVec 7) (payload : List Byte) (dir : Dir) : List Byte :=
  framePrefix payload ++ [checksum (framePrefix payload) (seed addr dir)]

/-- `build_write(address, control, value)`, 7 bytes with the write seed (R73, R111). -/
def buildWrite (addr : BitVec 7) (control : Byte) (value : BitVec 16) : List Byte :=
  buildFrame addr [Config.writeCmd, control, hiByte value, loByte value] .write

/-- `build_read(address, control)`, 5 bytes with the READ seed although it is sent by a transport write
(R74, R112; C5, D16). -/
def buildRead (addr : BitVec 7) (control : Byte) : List Byte :=
  buildFrame addr [Config.readCmd, control] .read

/-! ### Validating a reply (R113 to R124) -/

/-- Step 1: the ack byte must be the read address byte (R114). -/
def ackAccepted (addr : BitVec 7) (ack : Byte) : Bool := ack == seed addr .read

/-- Step 2: bit 7 is required only under `STRICT_LENGTH_FLAG`; `data_length` is at most `MAX_DATA_LEN` (R115). -/
def lengthAccepted (strict : Bool) (maxDataLen : BitVec 7) (len : Byte) : Bool :=
  (!strict || len.getLsbD 7) && decide ((dataLengthOf len).toNat ≤ maxDataLen.toNat)

/-- The checksum a reply of these data bytes must carry: over `0x51`, the REBUILT length byte and the data, with
the read seed (R118; C1). -/
def replyChecksum (addr : BitVec 7) (dataLength : Nat) (data : List Byte) : Byte :=
  xorFold (seed addr .read) (Config.magic1 :: lengthByte dataLength :: data)

/-- Steps 5 to 7 on the data bytes of a reply whose checksum is right: each index is tested against
`data_length` just before it is read (R119 to R122, R120; D15). -/
def readFields (control : Byte) (data : List Byte) : Except Status ReadResult :=
  if data.length < 1 then .error .truncatedResponse
  else if data.getD 0 0 ≠ Config.replyMarker then .error .unexpectedReplyType
  else if data.length < 3 then .error .truncatedResponse
  else if data.getD 2 0 ≠ control then .error .controlMismatch
  else if data.length < 8 then .error .truncatedResponse
  else .ok { value := be16 (data.getD 6 0) (data.getD 7 0), maxValue := be16 (data.getD 4 0) (data.getD 5 0) }

/-- Steps 3 to 7 on what the tail read returned; `n` is `data_length` (R116 to R122). -/
def checkTail (addr : BitVec 7) (control : Byte) (n : Nat) (tail : List Byte) : Except Status ReadResult :=
  if tail.length < n + 1 then .error .truncatedResponse
  else if replyChecksum addr n (tail.take n) ≠ tail.getD n 0 then .error .checksumError
  else readFields control (tail.take n)

/-- The whole of `parse_response` in one piece (R124). The machine does not run it: its three phases do the same
steps as the bytes arrive (R113; C8), and a statement says that they agree. -/
def parseResponse (addr : BitVec 7) (maxDataLen : BitVec 7) (strict : Bool) (control ack len : Byte)
    (tail : List Byte) : Except Status ReadResult :=
  if !ackAccepted addr ack then .error .ackInvalid
  else if !lengthAccepted strict maxDataLen len then .error .malformedLength
  else checkTail addr control (dataLengthOf len).toNat tail

end Sys2Proof.Machine
end

