-- ==== Sys2Proof/Syntax.lean ====
section
/-!
DEFINITION. The instructions of DDCCI-PE: one constructor for each row of `opcode_table.json`. They are the four
host commands (R80), the three frames (R73 to R75), and the two transport requests (R83).
-/

namespace Sys2Proof

/-- One constructor for each of the nine rows of the opcode table, with the operands the row uses. -/
inductive Instr where
  /-- `WRITE t, control, value`: `cmd_op = 0` (R160) -/
  | write (tag : Tag) (control : Byte) (value : BitVec 32)
  /-- `READ t, control`: `cmd_op = 1`, `cmd_value` ignored (R162) -/
  | read (tag : Tag) (control : Byte)
  /-- `CANCEL t`: `cmd_op = 2`, `cmd_control` and `cmd_value` ignored (R144) -/
  | cancel (tag : Tag)
  /-- `SCHED_RESET`: `cmd_op = 3`, every other field ignored (R146) -/
  | schedReset
  /-- `WRFRAME`: `build_write(ADDR, control, value)` (R111) -/
  | wrframe (control : Byte) (value : BitVec 16)
  /-- `RDREQ`: `build_read(ADDR, control)` (R112) -/
  | rdreq (control : Byte)
  /-- `RDREPLY`: a read reply as the display offers it: the ack byte, the length byte and the tail, which is the
  data bytes and the checksum, or fewer bytes where the reply is cut short (R113, R116, R117) -/
  | rdreply (ack : Byte) (len : Byte) (tail : List Byte)
  /-- `BUS_WRITE(data)` (R136) -/
  | busWrite (data : List Byte)
  /-- `BUS_READ(n)` (R169) -/
  | busRead (n : Nat)
deriving DecidableEq, Repr

end Sys2Proof
end

