-- ==== Sys2Proof/WellFormed.lean ====
section
/-!
DEFINITION. When an instruction is well formed: its fields are within the ranges the ports can carry
(`93_implementation_defined.md` U12: an input outside its field's range is refused).
-/

namespace Sys2Proof

open Sys2Proof.Machine (dataLengthOf)

/-- The ranges of an instruction's operands: a tag has `TAG_W` bits (R30); a reply's tail holds at most
`data_length + 1` bytes (R33, R116); a `BUS_WRITE` carries 5 or 7 bytes and a `BUS_READ` asks for 1 to 128 (R83).
Every control code and every value is legal (R81). -/
def Instr.wf (p : Config.Params) : Instr → Bool
  | .write tag _ _ => decide (tag < 2 ^ p.tagW)
  | .read tag _ => decide (tag < 2 ^ p.tagW)
  | .cancel tag => decide (tag < 2 ^ p.tagW)
  | .schedReset => true
  | .wrframe _ _ => true
  | .rdreq _ => true
  | .rdreply _ len tail => decide (tail.length ≤ (dataLengthOf len).toNat + 1)
  | .busWrite data => data.length == 5 || data.length == 7
  | .busRead n => decide (1 ≤ n) && decide (n ≤ 128)

end Sys2Proof
end

