-- ==== Sys2Proof/Decode.lean ====
section
/-!
DEFINITION. The decoder of port words, total and rejecting by name; after it the encoder, written from the same
tables (`30_encoding.md` rules R73 to R75, R80, R83); and the reading of an opcode-table word.
-/

namespace Sys2Proof

open Sys2Proof.Machine (seed checksum buildWrite buildRead dataLengthOf be16)

/-- Why a port word is no instruction. Safe: the machine refuses the word. -/
inductive DecodeError where
  /-- an outgoing frame has 7 or 5 bytes (R78) -/
  | frameLength
  /-- an outgoing frame starts with `0x51` (R71) -/
  | magic
  /-- the length byte is not `0x80 | len` of the frame's kind (R72, R85) -/
  | lengthByte
  /-- the command byte is neither `0x03` in 7 bytes nor `0x01` in 5 (R85) -/
  | command
  /-- the last byte is not the checksum of the bytes before it, which every frame carries (R71, R102) -/
  | checksum
  /-- a reply has an ack byte and a length byte (R75) -/
  | replyTooShort
  /-- a reply has at most `data_length + 1` bytes after the length byte (R33, R75) -/
  | replyTooLong
  /-- `bus_req_len` is 5 or 7 for a write, 1 to 128 for a read (R83) -/
  | busReqLength
  /-- `bus_req_data` holds `bus_req_len` bytes for a write and none for a read (R83) -/
  | busReqData
deriving DecidableEq, Repr

/-- A word of the command port: `cmd_op` selects, all four values are used, and the fields a command does not
use are ignored (R30, R80, R81). -/
def decodeCmd (c : CmdWord) : Instr :=
  if c.op = 0 then .write c.tag c.control c.value
  else if c.op = 1 then .read c.tag c.control
  else if c.op = 2 then .cancel c.tag
  else .schedReset

/-- An outgoing frame (R73, R74). Its checksum byte is determined by the bytes before it and by `ADDR`; a frame
that carries another byte there is none the block builds (R71, R85, R106; DEDUCED, notes/assumptions/12.md). -/
def decodeFrame (addr : BitVec 7) : List Byte → Except DecodeError Instr
  | [m, l, c, ctrl, hi, lo, k] =>
    if m ≠ Config.magic1 then .error .magic
    else if l ≠ 0x84 then .error .lengthByte
    else if c ≠ Config.writeCmd then .error .command
    else if k ≠ checksum [m, l, c, ctrl, hi, lo] (seed addr .write) then .error .checksum
    else .ok (.wrframe ctrl (be16 hi lo))
  | [m, l, c, ctrl, k] =>
    if m ≠ Config.magic1 then .error .magic
    else if l ≠ 0x82 then .error .lengthByte
    else if c ≠ Config.readCmd then .error .command
    else if k ≠ checksum [m, l, c, ctrl] (seed addr .read) then .error .checksum
    else .ok (.rdreq ctrl)
  | _ => .error .frameLength

/-- A read reply as offered: any ack byte, any length byte, and no more bytes than the length byte announces.
What is wrong with the bytes is for the validation steps to say (R75, R86 to R89). -/
def decodeReply : List Byte → Except DecodeError Instr
  | a :: l :: tail =>
    if tail.length ≤ (dataLengthOf l).toNat + 1 then .ok (.rdreply a l tail) else .error .replyTooLong
  | _ => .error .replyTooShort

/-- A word of the transport request port (R83). -/
def decodeBusReq (kind : BitVec 1) (len : Nat) (data : List Byte) : Except DecodeError Instr :=
  if kind = 0 then
    if !(len == 5 || len == 7) then .error .busReqLength
    else if data.length ≠ len then .error .busReqData
    else .ok (.busWrite data)
  else
    if !(decide (1 ≤ len) && decide (len ≤ 128)) then .error .busReqLength
    else if data ≠ [] then .error .busReqData
    else .ok (.busRead len)

/-- The decoder, for a block at bus address `addr`: total, each rejection named. -/
def decode (addr : BitVec 7) : PortWord → Except DecodeError Instr
  | .cmd c => .ok (decodeCmd c)
  | .frame bytes => decodeFrame addr bytes
  | .reply bytes => decodeReply bytes
  | .busReq kind len data => decodeBusReq kind len data

/-- The encoder: the word of a well-formed instruction, from R73 to R75, R80 and R83. Ignored fields are zero. -/
def encode (addr : BitVec 7) : Instr → PortWord
  | .write tag control value => .cmd { op := 0, tag := tag, control := control, value := value }
  | .read tag control => .cmd { op := 1, tag := tag, control := control, value := 0 }
  | .cancel tag => .cmd { op := 2, tag := tag, control := 0, value := 0 }
  | .schedReset => .cmd { op := 3, tag := 0, control := 0, value := 0 }
  | .wrframe control value => .frame (buildWrite addr control value)
  | .rdreq control => .frame (buildRead addr control)
  | .rdreply ack len tail => .reply (ack :: len :: tail)
  | .busWrite data => .busReq 0 data.length data
  | .busRead n => .busReq 1 n []

/-! ### Words of the opcode table -/

/-- The `n` bytes of a number, first byte most significant: the table numbers a frame's bits so ("taken first
byte most significant", rows WRFRAME and RDREQ). -/
def bytesMsb : Nat → Nat → List Byte
  | 0, _ => []
  | n + 1, w => BitVec.ofNat 8 (w / 256 ^ n) :: bytesMsb n w

/-- A command word from a number: `cmd_op` is bits 1..0, as the table has it; the fields after it stand in R30's
order from bit 2 up, `cmd_tag` in `tagW` bits. The table gives only bits 1..0: the places of the others are a
DESIGN CHOICE, notes/assumptions/3.md. -/
def cmdWordOf (tagW w : Nat) : CmdWord :=
  { op := BitVec.ofNat 2 w
    tag := w / 4 % 2 ^ tagW
    control := BitVec.ofNat 8 (w / 2 ^ (2 + tagW))
    value := BitVec.ofNat 32 (w / 2 ^ (10 + tagW)) }

/-- The port word of an opcode-table word of `nbits` bits: 56 and 40 bits are the outgoing frames, 88 bits the
whole reply of `data_length = 8`, anything else a word of the command port. A `BUS_WRITE` or `BUS_READ` selector has
the same bits as a `WRITE` or `READ` selector and is not told apart from it here (notes/assumptions/3.md). -/
def tableWord (tagW nbits w : Nat) : PortWord :=
  if nbits = 56 then .frame (bytesMsb 7 w)
  else if nbits = 40 then .frame (bytesMsb 5 w)
  else if nbits = 88 then .reply (bytesMsb 11 w)
  else .cmd (cmdWordOf tagW w)

/-- The instruction the decoder reads from an opcode-table word, at the default address and tag width. -/
def decodeTableWord (nbits w : Nat) : Option Instr :=
  match decode Config.defaultAddr (tableWord Config.suggestedParams.tagW nbits w) with
  | .ok i => if i.wf Config.suggestedParams then some i else none
  | .error _ => none

end Sys2Proof
end

