-- ==== Sys2Proof/Machine/State.lean ====
section
/-!
DEFINITION. The state of DDCCI-PE: every register of `10_state.md` rule R20, and beside them the model's own
fields (the structural parameters, the strap pins, the events not yet processed, the result of a builder call
and the observation of R16). The block has no memory of its own and no address space it can index
(R20, R50), so the state holds no byte-addressed memory.
-/

namespace Sys2Proof.Machine

/-! ### The types of the registers -/

/-- `sched_state` (R22); the encoding value 3 is never written and is no constructor (R90; DEDUCED,
notes/assumptions/23.md). -/
inductive SchedState where
  /-- no transaction in flight, no delay running -/
  | idle
  /-- a transaction is on the bus -/
  | dispatching
  /-- the delay after the last transaction is running -/
  | waiting
deriving DecidableEq, Repr

/-- The `kind` of a queue entry (R24). -/
inductive Kind where
  /-- the transaction of a WRITE operation -/
  | txWrite
  /-- the request transaction of a READ operation -/
  | txRdreq
  /-- the follow-up transaction of a READ operation -/
  | txRdfollow
deriving DecidableEq, Repr

/-- The derived field `dir` of an entry (R24). -/
def Kind.dir : Kind → Dir
  | .txWrite => .write
  | .txRdreq => .write
  | .txRdfollow => .read

/-- The `phase` of the transaction in flight: which response it awaits (R25). -/
inductive Phase where
  /-- the response to `BUS_WRITE(cur.frame)` -/
  | phWr
  /-- the ack byte -/
  | phAck
  /-- the length byte -/
  | phLen
  /-- data and checksum -/
  | phTail
  /-- a response that will be discarded, the operation having timed out -/
  | phDrain
deriving DecidableEq, Repr

/-- A queue entry, the document's PendingTransaction (R24). -/
structure Entry where
  /-- the tag of the operation the transaction belongs to -/
  tag : Tag
  /-- which transaction of which operation -/
  kind : Kind
  /-- the control code of the operation -/
  control : Byte
  /-- the built frame: 7 bytes, 5 bytes, or none for a follow-up -/
  frame : List Byte
deriving DecidableEq, Repr

/-- `cur`, the transaction in flight: an entry and its phase (R25). -/
structure Cur where
  /-- the entry as it left the queue -/
  entry : Entry
  /-- the response it awaits -/
  phase : Phase
deriving DecidableEq, Repr

/-- `CFG`, the six configuration registers (R21). -/
structure Cfg where
  /-- `ADDR`, 7 bits -/
  addr : BitVec 7
  /-- `DELAY_WRITE`, ticks -/
  delayWrite : Nat
  /-- `DELAY_READ`, ticks -/
  delayRead : Nat
  /-- `READ_TIMEOUT`, ticks -/
  readTimeout : Nat
  /-- `MAX_DATA_LEN`, 7 bits -/
  maxDataLen : BitVec 7
  /-- `STRICT_LENGTH_FLAG`, 1 bit -/
  strictLengthFlag : Bool
deriving DecidableEq, Repr

/-- The strap inputs that `HardReset` samples (R21, D8): `none` where the platform gives no value and the spec
has a default; the other three have no default in any source. The counters have no upper bound (R20; DEDUCED,
notes/assumptions/22.md). -/
structure Straps where
  /-- the strap of `ADDR` -/
  addr : Option (BitVec 7)
  /-- the strap of `DELAY_WRITE` -/
  delayWrite : Option Nat
  /-- the strap of `DELAY_READ` -/
  delayRead : Option Nat
  /-- the strap of `READ_TIMEOUT` -/
  readTimeout : Nat
  /-- the strap of `MAX_DATA_LEN` -/
  maxDataLen : BitVec 7
  /-- the strap of `STRICT_LENGTH_FLAG` -/
  strictLengthFlag : Bool
deriving DecidableEq, Repr

/-! ### Events (R12, R31, R33) -/

/-- A `BusRsp` event (R33, R84). -/
inductive BusRsp where
  /-- `Ok`, the answer to a write -/
  | ok
  /-- `Ok(bytes)`, the answer to a read -/
  | bytes (bs : List Byte)
  /-- `Err(e)` -/
  | err (e : BusErr)
deriving DecidableEq, Repr

/-- A `BusReq` event (R33, R83). -/
inductive BusReq where
  /-- `BUS_WRITE(bytes)` -/
  | busWrite (data : List Byte)
  /-- `BUS_READ(n)` -/
  | busRead (n : Nat)
deriving DecidableEq, Repr

/-- A `Completion` event (R31, R82). -/
structure Completion where
  /-- `rsp_tag` -/
  tag : Tag
  /-- `rsp_status` -/
  status : Status
  /-- `rsp_value`, zero unless a READ ended with OK -/
  value : BitVec 16
  /-- `rsp_max`, zero unless a READ ended with OK -/
  maxValue : BitVec 16
  /-- `rsp_buserr`, zero unless the status is BusError -/
  buserr : BusErr
deriving DecidableEq, Repr

/-- External events that fall in one clock cycle (R14). -/
structure Coincident where
  /-- a `HardReset` in this cycle -/
  hardReset : Bool
  /-- the `BusRsp` of this cycle -/
  rsp : Option BusRsp
  /-- a `Tick` in this cycle -/
  tick : Bool
  /-- the `Cmd` of this cycle -/
  cmd : Option CmdWord
deriving DecidableEq, Repr

/-- What the environment gives the block next. `word` holds a `Cmd` event (R12) or one of the block's own
functions called with a frame or a reply, as the source's tests call them; the rest are the other external
events of R12 and a cycle of several (R14). -/
inductive Input where
  /-- a `Cmd` event, or a frame or reply given to FrameBuilder -/
  | word (w : PortWord)
  /-- a `BusRsp` event -/
  | rsp (r : BusRsp)
  /-- a `Tick` event (R34) -/
  | tick
  /-- a `HardReset` event (R34, R220) -/
  | hardReset
  /-- several events in one cycle (R14) -/
  | coincident (c : Coincident)
deriving DecidableEq, Repr

/-- One element of the observation: the output events of R13, each `Tick`, and marks of the processed events that
R16, R31 and R59 count (an accepted command, a processed response, a reset; DESIGN CHOICE,
notes/assumptions/16.md). -/
inductive Obs where
  /-- a `BusReq` was emitted, to the device at this address (R83) -/
  | request (addr : BitVec 7) (r : BusReq)
  /-- a `Completion` was emitted -/
  | completed (c : Completion)
  /-- a WRITE or READ with this tag was accepted -/
  | accepted (tag : Tag)
  /-- a `BusRsp` was processed -/
  | responded
  /-- a `Tick` was processed -/
  | ticked
  /-- a `HardReset` was processed -/
  | hardReset
deriving DecidableEq, Repr

/-! ### The state -/

/-- The state of the block. The fields `cfg` to `acc` are those of R20; `params`, `straps`, `inputs`, `built` and
`trace` are the model's own (notes/assumptions/4.md). An `Option` is the spec's own "holds no value" (R29, D30). -/
structure State where
  /-- the structural parameters `QUEUE_DEPTH`, `TAG_W`, `BUSERR_W`; constant (R7) -/
  params : Config.Params
  /-- the strap pins, an input of the platform; no event changes them (R21; DESIGN CHOICE, notes/assumptions/21.md) -/
  straps : Straps
  /-- `CFG` (R21) -/
  cfg : Cfg
  /-- `sched_state` (R22) -/
  sched : SchedState
  /-- `queue`, head first (R24) -/
  queue : List Entry
  /-- `cur` (R25) -/
  cur : Option Cur
  /-- `wait_left` (R26) -/
  waitLeft : Nat
  /-- `last_dir` (R26) -/
  lastDir : Option Dir
  /-- `to_left` (R27) -/
  toLeft : Nat
  /-- `rx_ack` (R28) -/
  rxAck : Option Byte
  /-- `rx_len` (R28) -/
  rxLen : Option Byte
  /-- `data_length` (R28) -/
  dataLength : Option (BitVec 7)
  /-- `rx_data` (R28) -/
  rxData : Option (List Byte)
  /-- `rx_cs` (R28) -/
  rxCs : Option Byte
  /-- `acc` (R28) -/
  acc : Option Byte
  /-- the external events that have happened and are not yet processed, oldest first -/
  inputs : List Input
  /-- the frame that the last builder call (WRFRAME, RDREQ) returned -/
  built : Option (List Byte)
  /-- the observation since the start, oldest first (R16) -/
  trace : List Obs
deriving DecidableEq, Repr

/-! ### How a step can stop -/

/-- The faults: the model has no step, because the rules give the event none (`93_implementation_defined.md`
part 2, treatment `stuck`) or because a register without a value is read (R29). All are safe: where the hardware
would go on, the model proves nothing. -/
inductive Fault where
  /-- raised by WRITE and READ when `cmd_ready = 0`: the environment must never do so (R226 a). Safe. -/
  | cmdNotReady
  /-- raised by a response when no transport request is outstanding (R226 b, d). Safe. -/
  | unexpectedResponse
  /-- raised when a rule reads a register outside its window (R29, D30). Safe. -/
  | noValue
  /-- raised by BUS_WRITE and BUS_READ when the block does not owe that request: a `BusReq` is emitted only by
  dispatch and by the phase steps, and never while one is outstanding (R130). Safe. -/
  | requestNotDue
  /-- raised by a response in phase `PH_WR` of a follow-up, a pair no rule writes (R163 and R164 name the other
  two kinds; DESIGN CHOICE, notes/assumptions/15.md). Safe. -/
  | noRule
deriving DecidableEq, Repr

/-- The refusals: an input outside its domain (`93_implementation_defined.md`, treatment `refuse`). All are safe. -/
inductive Refusal where
  /-- an instruction that has no meaning in the model; raised by an arm of `exec` only. Safe. -/
  | notModelled (mnemonic : String)
  /-- raised by `step`: the port word is no instruction, for the reason given. Safe. -/
  | undecodable (e : DecodeError)
  /-- raised by `step` and by a response: a field is outside the range its port can carry (U12). Safe. -/
  | operandOutOfRange
  /-- raised by a response of the wrong shape, or with more bytes than asked (R226 c). Safe. -/
  | wrongShape
  /-- raised by `HardReset` when a strap is outside its legal range (R21). Safe. -/
  | strapOutOfRange
deriving DecidableEq, Repr

/-! ### Reset -/

/-- What `HardReset` samples from the straps, with the defaults of R21. -/
def Straps.sample (st : Straps) : Cfg :=
  { addr := st.addr.getD Config.defaultAddr
    delayWrite := st.delayWrite.getD Config.defaultDelay
    delayRead := st.delayRead.getD Config.defaultDelay
    readTimeout := st.readTimeout
    maxDataLen := st.maxDataLen
    strictLengthFlag := st.strictLengthFlag }

/-- The legal ranges of the configuration (R21): 7-bit fields need no upper test. -/
abbrev Cfg.Legal (c : Cfg) : Prop := 1 ≤ c.readTimeout ∧ 8 ≤ c.maxDataLen.toNat

/-- The straps of `State.reset`: none where the spec has a default; DESIGN CHOICE where it has none,
notes/assumptions/1.md. -/
def resetStraps : Straps :=
  { addr := none
    delayWrite := none
    delayRead := none
    readTimeout := Config.resetReadTimeout
    maxDataLen := Config.resetMaxDataLen
    strictLengthFlag := Config.resetStrictLengthFlag }

/-- The block right after `HardReset` (R38), with the straps of `resetStraps`, the suggested structural
parameters, and no event pending. -/
def State.reset : State :=
  { params := Config.suggestedParams
    straps := resetStraps
    cfg := resetStraps.sample
    sched := .idle
    queue := []
    cur := none
    waitLeft := 0
    lastDir := none
    toLeft := 0
    rxAck := none
    rxLen := none
    dataLength := none
    rxData := none
    rxCs := none
    acc := none
    inputs := []
    built := none
    trace := [] }

end Sys2Proof.Machine
end

