-- ==== Sys2Proof/Machine/Flags.lean ====
section
/-!
DEFINITION. The status outputs of the block, which are its only flags and pure functions of the state (R32), the
occupancy they rest on (R132), and the numeric codes of the enumerations (R22, R24, R25, R80, R83, R190; D24).
-/

namespace Sys2Proof.Machine

/-- `occupancy` (R30, R132): the queued entries, and the slot reserved for the follow-up of a READ whose request is
on the bus. It reads `cur` while `Dispatching`, and has no value where `cur` has none (R29). -/
def State.occupancy (s : State) : Option Nat :=
  match s.sched with
  | .dispatching =>
    match s.cur with
    | some c => some (s.queue.length + if c.entry.kind = .txRdreq then 1 else 0)
    | none => none
  | _ => some s.queue.length

/-- `cmd_ready` (R30, R32). Where occupancy has no value, in a state `Dispatching` whose `cur` holds none (no run reaches
it, R29), no rule gives `cmd_ready` one and the model drives 0 (DESIGN CHOICE, notes/assumptions/24.md). -/
def State.cmdReady (s : State) : Bool :=
  match s.occupancy with
  | some n => decide (n < s.params.queueDepth)
  | none => false

/-- `idle` (R32). -/
def State.idleOut (s : State) : Bool := s.sched == .idle

/-- `busy_bus` (R32). -/
def State.busyBus (s : State) : Bool := s.sched == .dispatching

/-- The derived field `dir` of the transaction in flight (R24, R25). -/
def Cur.dir (c : Cur) : Dir := c.entry.kind.dir

/-! ### Numeric codes (D24, R190) -/

/-- `sched_state` as 2 bits (R22). -/
def SchedState.code : SchedState → BitVec 2
  | .idle => 0
  | .dispatching => 1
  | .waiting => 2

/-- `kind` as 2 bits (R24). -/
def Kind.code : Kind → BitVec 2
  | .txWrite => 0
  | .txRdreq => 1
  | .txRdfollow => 2

/-- `dir` as 1 bit (D24), which is also the direction bit of an address byte (R51). -/
def dirCode : Dir → BitVec 1
  | .write => 0
  | .read => 1

/-- `phase` as 3 bits (R25). -/
def Phase.code : Phase → BitVec 3
  | .phWr => 0
  | .phAck => 1
  | .phLen => 2
  | .phTail => 3
  | .phDrain => 4

/-- `rsp_status` as 4 bits (R190). -/
def Status.code : Status → BitVec 4
  | .ok => 0
  | .busError => 1
  | .ackInvalid => 2
  | .malformedLength => 3
  | .checksumError => 4
  | .unexpectedReplyType => 5
  | .controlMismatch => 6
  | .truncatedResponse => 7
  | .cancelled => 8
  | .timeout => 9

/-- The document's `ProtocolError`, codes 2 to 7 (R190). -/
def Status.isProtocolError (st : Status) : Bool :=
  decide (2 ≤ st.code.toNat) && decide (st.code.toNat ≤ 7)

/-- `bus_rsp_ok` (R84). -/
def BusRsp.okBit : BusRsp → BitVec 1
  | .ok => 1
  | .bytes _ => 1
  | .err _ => 0

/-- The transport port's word of an emitted request (R83). -/
def BusReq.word : BusReq → PortWord
  | .busWrite data => .busReq 0 data.length data
  | .busRead n => .busReq 1 n []

end Sys2Proof.Machine
end

