-- ==== Sys2Proof/Machine/Ops.lean ====
section
/-!
DEFINITION. The shared operations over the registers of the block: emitting, enqueueing, dispatching, the end of a
transaction and its delay, completing an operation (the block's analogue of taking an exception, R204), the
urgent internal transitions, the three stages of a follow-up read, and the reset.
-/

namespace Sys2Proof.Machine

open Host (Outcome)

/-! ### Output -/

/-- `emit X`: append one event to the observation (R10, R13). -/
def State.emit (s : State) (o : Obs) : State := { s with trace := s.trace ++ [o] }

/-- Emit one `BusReq`; it carries the constant `ADDR` (R33, R83). -/
def State.request (s : State) (r : BusReq) : State := s.emit (.request s.cfg.addr r)

/-- The `Completion` of a status that carries nothing (R31: the fields without meaning are zero). -/
def Completion.plain (tag : Tag) (st : Status) : Completion :=
  { tag := tag, status := st, value := 0, maxValue := 0, buserr := 0 }

/-- The `Completion` of an error: the error word is carried by `BusError` alone (R31, R174). -/
def Completion.failed (tag : Tag) (st : Status) (info : BusErr) : Completion :=
  { Completion.plain tag st with buserr := if st = .busError then info else 0 }

/-- The `Completion` of a READ that succeeded (R173). -/
def Completion.readOk (tag : Tag) (r : ReadResult) : Completion :=
  { Completion.plain tag .ok with value := r.value, maxValue := r.maxValue }

/-- Emit one `Completion` event (R31). -/
def State.complete (s : State) (c : Completion) : State := s.emit (.completed c)

/-! ### Queue and dispatch -/

/-- `ENQUEUE(e)`: at the tail (R133). -/
def State.enqueue (s : State) (e : Entry) : State := { s with queue := s.queue ++ [e] }

/-- `dispatch(e)` (R136, R169). `last_dir` loses its value with the state `Waiting` (R29; DEDUCED,
notes/assumptions/7.md). -/
def State.dispatch (s : State) (e : Entry) : State :=
  match e.kind with
  | .txWrite | .txRdreq =>
    ({ s with cur := some { entry := e, phase := .phWr }, sched := .dispatching, lastDir := none }).request
      (.busWrite e.frame)
  | .txRdfollow =>
    ({ s with cur := some { entry := e, phase := .phAck }, sched := .dispatching, lastDir := none,
              toLeft := s.cfg.readTimeout }).request (.busRead 1)

/-- `dispatch(dequeue())` (R135, R141). -/
def State.dispatchHead (s : State) : State :=
  match s.queue with
  | [] => s
  | e :: q => ({ s with queue := q }).dispatch e

/-- `EXPIRE` with an empty queue: `Waiting` to `Idle` (R141). -/
def State.expireToIdle (s : State) : State := { s with sched := .idle, lastDir := none }

/-- The internal transitions, urgent: `DISPATCH` from `Idle` (R135) and `EXPIRE` (R141), until none is enabled
(R13). One pass is enough, since each of them ends where neither is enabled (`State.settle_quiescent`). -/
def State.settle (s : State) : State :=
  match s.sched with
  | .idle => s.dispatchHead
  | .waiting =>
    if s.waitLeft = 0 then
      match s.queue with
      | [] => s.expireToIdle
      | _ :: _ => s.dispatchHead
    else s
  | .dispatching => s

/-! ### The end of a transaction and of an operation -/

/-- The delay that follows a transaction of this direction (R138). -/
def Cfg.delayAfter (c : Cfg) : Dir → Nat
  | .write => c.delayWrite
  | .read => c.delayRead

/-- The parser registers lose their value (R29, R138). -/
def State.clearParser (s : State) : State :=
  { s with rxAck := none, rxLen := none, dataLength := none, rxData := none, rxCs := none, acc := none }

/-- `finish_transaction()`, `Dispatching` to `Waiting`, keyed to the transaction that just completed and whatever its
outcome (R138, R139). -/
def State.finishTransaction (s : State) (c : Cur) : State :=
  { s.clearParser with
    lastDir := some c.dir
    waitLeft := s.cfg.delayAfter c.dir
    toLeft := 0
    cur := none
    sched := .waiting }

/-- `raise E` for a status that arises on the bus: the block's whole "trap entry" (R174, R204). One `Completion` with
the operation's tag, no further request of this transaction, and the transaction is over. Nothing is saved and
control goes nowhere, and there is no return from it (R206). -/
def State.raise (s : State) (c : Cur) (st : Status) (info : BusErr) : State :=
  (s.complete (.failed c.entry.tag st info)).finishTransaction c

/-- `raise Cancelled` for a queued operation: only the `Completion`, since it changes no more than the queue (R204). -/
def State.raiseCancelled (s : State) (tag : Tag) : State := s.complete (.plain tag .cancelled)

/-- `raise Timeout`: the operation ends, the transaction stays on the bus to be drained (R176, R204). -/
def State.raiseTimeout (s : State) (c : Cur) : State :=
  { s.complete (.plain c.entry.tag .timeout) with cur := some { c with phase := .phDrain } }

/-- `succeed(value, max_value)` (R173). -/
def State.succeed (s : State) (c : Cur) (r : ReadResult) : State :=
  (s.complete (.readOk c.entry.tag r)).finishTransaction c

/-! ### Acceptance of a command -/

/-- A WRITE or READ is accepted only while `cmd_ready = 1` (R132); its entry joins the tail, and in `Idle` it is
dispatched in the same reaction (R133, R135). -/
def State.accept (s : State) (e : Entry) : Outcome State Fault Refusal :=
  match s.occupancy with
  | none => .fault .noValue
  | some n =>
    if n < s.params.queueDepth then .next ((s.emit (.accepted e.tag)).enqueue e).settle
    else .fault .cmdNotReady

/-! ### The stages of a transaction on the bus -/

/-- The next read of a follow-up: `cur.phase <- ph ; emit BusReq BUS_READ(n)` (R170, R171). -/
def State.nextRead (s : State) (c : Cur) (ph : Phase) (n : Nat) : State :=
  ({ s with cur := some { c with phase := ph } }).request (.busRead n)

/-- The response to the `BUS_WRITE` of a WRITE (R163); `none` is `Ok`, `some e` is `Err(e)`. -/
def State.writeAnswered (s : State) (c : Cur) : Option BusErr → State
  | none => (s.complete (.plain c.entry.tag .ok)).finishTransaction c
  | some e => s.raise c .busError e

/-- The entry of the follow-up of a READ: tag and control of its request, no frame (R164, R168). -/
def Cur.followUp (c : Cur) : Entry :=
  { tag := c.entry.tag, kind := .txRdfollow, control := c.entry.control, frame := [] }

/-- The response to the `BUS_WRITE` of a read request (R164): the follow-up joins the tail, and the READ lives on. -/
def State.requestAnswered (s : State) (c : Cur) : Option BusErr → State
  | none => (s.enqueue c.followUp).finishTransaction c
  | some e => s.raise c .busError e

/-- The response to the ack read (R170, R114). -/
def State.ackAnswered (s : State) (c : Cur) : Except BusErr (List Byte) → State
  | .error e => s.raise c .busError e
  | .ok [] => s.raise c .truncatedResponse 0
  | .ok (a :: _) =>
    if ackAccepted s.cfg.addr a then ({ s with rxAck := some a }).nextRead c .phLen 1
    else ({ s with rxAck := some a }).raise c .ackInvalid 0

/-- The response to the length read (R171, R115). -/
def State.lenAnswered (s : State) (c : Cur) : Except BusErr (List Byte) → State
  | .error e => s.raise c .busError e
  | .ok [] => s.raise c .truncatedResponse 0
  | .ok (l :: _) =>
    if lengthAccepted s.cfg.strictLengthFlag s.cfg.maxDataLen l then
      ({ s with rxLen := some l, dataLength := some (dataLengthOf l) }).nextRead c .phTail
        ((dataLengthOf l).toNat + 1)
    else ({ s with rxLen := some l, dataLength := some (dataLengthOf l) }).raise c .malformedLength 0

/-- The split of a complete tail into the parser registers, with the recomputed checksum (R116, R118). -/
def State.loadTail (s : State) (n : Nat) (tail : List Byte) : State :=
  { s with
    rxData := some (tail.take n)
    rxCs := some (tail.getD n 0)
    acc := some (replyChecksum s.cfg.addr n (tail.take n)) }

/-- The response to the tail read; `n` is `data_length` (R172). -/
def State.tailAnswered (s : State) (c : Cur) (n : Nat) : Except BusErr (List Byte) → State
  | .error e => s.raise c .busError e
  | .ok tail =>
    if tail.length < n + 1 then s.raise c .truncatedResponse 0
    else
      match checkTail s.cfg.addr c.entry.control n tail with
      | .error st => (s.loadTail n tail).raise c st 0
      | .ok r => (s.loadTail n tail).succeed c r

/-! ### Which response answers which request (R33, R226 c) -/

/-- The answer to a write: `Ok`, or `Err(e)`; anything else has the wrong shape. -/
def BusRsp.writeAnswer : BusRsp → Option (Option BusErr)
  | .ok => some none
  | .bytes _ => none
  | .err e => some (some e)

/-- The answer to a read of `n` bytes: at most `n` bytes, or `Err(e)`; anything else has the wrong shape. -/
def BusRsp.readAnswer (n : Nat) : BusRsp → Option (Except BusErr (List Byte))
  | .ok => none
  | .bytes bs => if bs.length ≤ n then some (.ok bs) else none
  | .err e => some (.error e)

/-- Whether an error word fits its `BUSERR_W` bits (R84). -/
def BusRsp.inRange (p : Config.Params) : BusRsp → Bool
  | .err e => decide (e < 2 ^ p.buserrW)
  | _ => true

/-- How many bytes the outstanding `BUS_READ` asked for (R36 a: implied by the phase). While draining it is the
read at which the timeout struck, which the parser registers tell (DEDUCED,
notes/assumptions/9.md). -/
def State.asked (s : State) : Phase → Option Nat
  | .phWr => none
  | .phAck => some 1
  | .phLen => some 1
  | .phTail => s.dataLength.map (fun d => d.toNat + 1)
  | .phDrain => some (match s.dataLength with | some d => d.toNat + 1 | none => 1)

/-! ### Reset -/

/-- `HardReset` (R38, R220): samples the straps, gives every other register its reset value, emits nothing, and
refuses straps outside their range (R21). Pending events and the observation are the environment's. -/
def State.hardReset (s : State) : Outcome State Fault Refusal :=
  if s.straps.sample.Legal then
    .next
      { params := s.params
        straps := s.straps
        cfg := s.straps.sample
        sched := .idle
        queue := []
        cur := none
        waitLeft := 0
        lastDir := none
        toLeft := 0
        rxAck := none
        rxLen := none
        dataLength := none
        rxData := none
        rxCs := none
        acc := none
        inputs := s.inputs
        built := none
        trace := s.trace ++ [.hardReset] }
  else .refused .strapOutOfRange

/-! ### The request the block owes -/

/-- The transport word of a dispatch of this entry (R136, R169). -/
def Entry.request (e : Entry) : PortWord :=
  match e.kind with
  | .txWrite | .txRdreq => (BusReq.busWrite e.frame).word
  | .txRdfollow => (BusReq.busRead 1).word

/-- Whether a dispatch or an expiry is enabled, as R135 and R141 have it (an `EXPIRE` also with an empty queue). -/
def State.atDispatchPoint (s : State) : Bool :=
  match s.sched with
  | .idle => true
  | .waiting => s.waitLeft == 0
  | .dispatching => false

/-- The read that a follow-up owes in the middle of its reaction, between writing a parser register and emitting the
next `BUS_READ` (R170, R171), with the phase it leads to: the length read once the ack byte is accepted, the
tail read once the length byte is. -/
def State.owedRead (s : State) : Option (Cur × Phase × Nat) :=
  match s.sched, s.cur with
  | .dispatching, some c =>
    match c.phase with
    | .phAck =>
      match s.rxAck with
      | some a => if ackAccepted s.cfg.addr a then some (c, .phLen, 1) else none
      | none => none
    | .phLen =>
      match s.rxLen, s.dataLength with
      | some l, some d =>
        if lengthAccepted s.cfg.strictLengthFlag s.cfg.maxDataLen l then some (c, .phTail, d.toNat + 1) else none
      | _, _ => none
    | _ => none
  | _, _ => none

/-- The transport request the block owes before it takes another event, if any: that of the head of the queue where
a dispatch is enabled, or the next read of a follow-up. In the states between events there is none (R13). -/
def State.dueRequest (s : State) : Option PortWord :=
  if s.atDispatchPoint then
    match s.queue with
    | e :: _ => some e.request
    | [] => none
  else
    match s.owedRead with
    | some (_, _, n) => some (BusReq.busRead n).word
    | none => none

end Sys2Proof.Machine
end

