-- ==== Sys2Proof/Machine/Bus.lean ====
section
/-!
DEFINITION. The meanings of the two transport requests. A `BusReq` is emitted only where the block owes it, by a
dispatch or by a phase step, and never while another is outstanding (R130); what answers it is in Events.lean
(DEDUCED, notes/assumptions/14.md).
-/

namespace Sys2Proof.Machine

open Host (Outcome)

/-- `BUS_WRITE(data)`: the dispatch of the entry at the head whose frame is `data` (R135, R136, R141). -/
def execBusWrite (data : List Byte) (s : State) : Outcome State Fault Refusal :=
  if s.dueRequest = some (BusReq.busWrite data).word then .next s.dispatchHead
  else .fault .requestNotDue

/-- `BUS_READ(n)`: the dispatch of a follow-up, which reads the ack byte (R169), or its next read, of the length byte
or of data and checksum (R170, R171). -/
def execBusRead (n : Nat) (s : State) : Outcome State Fault Refusal :=
  if s.dueRequest = some (BusReq.busRead n).word then
    match s.owedRead with
    | some (c, ph, k) => .next (s.nextRead c ph k)
    | none => .next s.dispatchHead
  else .fault .requestNotDue

end Sys2Proof.Machine
end

