-- ==== Sys2Proof/Machine/Commands.lean ====
section
/-!
DEFINITION. The meanings of the four host commands: WRITE (R160), READ (R162), CANCEL (R144, R145) and SCHED_RESET
(R146, R147). Each is the whole reaction to its `Cmd` event (R13). CANCEL and SCHED_RESET enable no internal
transition (DEDUCED, notes/assumptions/13.md).
-/

namespace Sys2Proof.Machine

open Host (Outcome)

/-- The entry of a WRITE: the frame is built now, from `ADDR` and the value cut to 16 bits (R160, R161, D29). -/
def writeEntry (addr : BitVec 7) (tag : Tag) (control : Byte) (value : BitVec 32) : Entry :=
  { tag := tag, kind := .txWrite, control := control, frame := buildWrite addr control (trunc16 value) }

/-- The entry of a READ's request (R162). -/
def readEntry (addr : BitVec 7) (tag : Tag) (control : Byte) : Entry :=
  { tag := tag, kind := .txRdreq, control := control, frame := buildRead addr control }

/-- `WRITE t, control, value` (R160). -/
def execWrite (tag : Tag) (control : Byte) (value : BitVec 32) (s : State) : Outcome State Fault Refusal :=
  s.accept (writeEntry s.cfg.addr tag control value)

/-- `READ t, control` (R162). -/
def execRead (tag : Tag) (control : Byte) (s : State) : Outcome State Fault Refusal :=
  s.accept (readEntry s.cfg.addr tag control)

/-- `CANCEL t`: the queued entry nearest the head whose tag is `t` is removed and completed with `Cancelled`; with no
such entry nothing happens. No timer, no state and not `cur` are touched (R144, R145). -/
def execCancel (tag : Tag) (s : State) : Outcome State Fault Refusal :=
  if s.queue.any (fun e => e.tag == tag) then
    .next (({ s with queue := s.queue.eraseP (fun e => e.tag == tag) }).raiseCancelled tag)
  else .next s

/-- Every queued operation, head first, is completed with `Cancelled` and the queue emptied (R146). -/
def State.cancelAll (s : State) : State :=
  { s.queue.foldl (fun t e => t.raiseCancelled e.tag) s with queue := [] }

/-- `SCHED_RESET`: the queue is cancelled in every state, and a running delay ends; a transaction on the bus is not
touched (R146, R147). -/
def execSchedReset (s : State) : Outcome State Fault Refusal :=
  match s.sched with
  | .waiting => .next { s.cancelAll with waitLeft := 0, lastDir := none, sched := .idle }
  | _ => .next s.cancelAll

end Sys2Proof.Machine
end

