-- ==== Sys2Proof/Machine/Events.lean ====
section
/-!
DEFINITION. The reactions of the block to the external events that are no command: `BusRsp` (R163 to R175), `Tick`
(R140, R143, R176), and several events in one cycle (R14).
-/

namespace Sys2Proof.Machine

open Host (Outcome)

/-- The work of a `BusRsp` on the transaction `c` in flight, by its phase (R163, R164, R170 to R172, R175), before the
internal transitions. -/
def State.answer (s : State) (c : Cur) (r : BusRsp) : Outcome State Fault Refusal :=
  match c.phase with
  | .phWr =>
    match r.writeAnswer with
    | none => .refused .wrongShape
    | some a =>
      match c.entry.kind with
      | .txWrite => .next (s.writeAnswered c a)
      | .txRdreq => .next (s.requestAnswered c a)
      | .txRdfollow => .fault .noRule
  | .phAck =>
    match r.readAnswer 1 with
    | none => .refused .wrongShape
    | some a => .next (s.ackAnswered c a)
  | .phLen =>
    match r.readAnswer 1 with
    | none => .refused .wrongShape
    | some a => .next (s.lenAnswered c a)
  | .phTail =>
    match s.dataLength with
    | none => .fault .noValue
    | some d =>
      match r.readAnswer (d.toNat + 1) with
      | none => .refused .wrongShape
      | some a => .next (s.tailAnswered c d.toNat a)
  | .phDrain =>
    match r.readAnswer ((s.asked .phDrain).getD 1) with
    | none => .refused .wrongShape
    | some _ => .next (s.finishTransaction c)

/-- `react(S, BusRsp r)`: only while a request is outstanding, which is while `Dispatching` (R36 a, R226 b). -/
def State.respond (s : State) (r : BusRsp) : Outcome State Fault Refusal :=
  if s.sched = .dispatching then
    match s.cur with
    | none => .fault .noValue
    | some c =>
      if r.inRange s.params then
        match (s.emit .responded).answer c r with
        | .next s' => .next s'.settle
        | .fault f => .fault f
        | .refused f => .refused f
      else .refused .operandOutOfRange
  else .fault .unexpectedResponse

/-- Whether `to_left` runs for this transaction (R27, R176). -/
def Cur.timed (c : Cur) : Bool :=
  c.entry.kind == .txRdfollow && (c.phase == .phAck || c.phase == .phLen || c.phase == .phTail)

/-- One tick of the timeout timer: the `READ_TIMEOUT`-th ends the operation (R176). A counter already at
zero stays there (DESIGN CHOICE, notes/assumptions/8.md). -/
def State.tickTimeout (s : State) (c : Cur) : State :=
  if s.toLeft - 1 = 0 then ({ s with toLeft := s.toLeft - 1 }).raiseTimeout c
  else { s with toLeft := s.toLeft - 1 }

/-- `react(S, Tick)` (R140, R143, R176). -/
def State.tick (s : State) : Outcome State Fault Refusal :=
  match s.sched with
  | .idle => .next (s.emit .ticked).settle
  | .waiting => .next ({ s.emit .ticked with waitLeft := s.waitLeft - 1 }).settle
  | .dispatching =>
    match s.cur with
    | none => .fault .noValue
    | some c => if c.timed then .next ((s.emit .ticked).tickTimeout c) else .next (s.emit .ticked)

/-- The events of one cycle in their fixed order: `HardReset`, which discards the others, then `BusRsp`, then `Tick`,
then `Cmd` (R14; DEDUCED, notes/assumptions/17.md). -/
def Coincident.inOrder (c : Coincident) : List Input :=
  if c.hardReset then [.hardReset]
  else
    (match c.rsp with | some r => [.rsp r] | none => []) ++
      (if c.tick then [.tick] else []) ++
        (match c.cmd with | some w => [.word (.cmd w)] | none => [])

end Sys2Proof.Machine
end

