-- ==== Sys2Proof/Machine/Frames.lean ====
section
/-!
DEFINITION. The meanings of the three frames: WRFRAME and RDREQ are calls of FrameBuilder's two builders (R111, R112),
RDREPLY is a reply offered by the display to the follow-up in flight (R113, with R170 to R172).
-/

namespace Sys2Proof.Machine

open Host (Outcome)

/-- `WRFRAME`: `build_write(ADDR, control, value)` returns its frame; no register of the block is written (R111;
DESIGN CHOICE, notes/assumptions/11.md). -/
def execWrframe (control : Byte) (value : BitVec 16) (s : State) : Outcome State Fault Refusal :=
  .next { s with built := some (buildWrite s.cfg.addr control value) }

/-- `RDREQ`: `build_read(ADDR, control)` returns its frame; no register of the block is written (R112;
DESIGN CHOICE, notes/assumptions/11.md). -/
def execRdreq (control : Byte) (s : State) : Outcome State Fault Refusal :=
  .next { s with built := some (buildRead s.cfg.addr control) }

/-- How many bytes the outstanding `BUS_READ` asks for, if a read is outstanding. -/
def State.outstandingRead (s : State) : Option Nat :=
  match s.sched, s.cur with
  | .dispatching, some c => s.asked c.phase
  | _, _ => none

/-- Whether the same follow-up has gone on from one read to its next one (R170, R171: only from the ack read to the
length read, and from there to the tail read). -/
def State.readsOn (s s' : State) : Bool :=
  match s.cur, s'.cur with
  | some c, some c' => (c.phase == .phAck && c'.phase == .phLen) || (c.phase == .phLen && c'.phase == .phTail)
  | _, _ => false

/-- The display offers these bytes: the outstanding read takes what it asked for, and so does each further read of the
same follow-up, in index order (R54), at most three in all (R113). Bytes that no read asks for stay in the
display (R174). -/
def State.offer : Nat → List Byte → State → Outcome State Fault Refusal
  | 0, _, s => .next s
  | k + 1, bytes, s =>
    match s.outstandingRead with
    | none => s.respond (.bytes bytes)
    | some n =>
      match s.respond (.bytes (bytes.take n)) with
      | .next s' => if s.readsOn s' then State.offer k (bytes.drop n) s' else .next s'
      | .fault f => .fault f
      | .refused f => .refused f

/-- `RDREPLY`: the reply is validated, in order, as the follow-up in flight fetches it, and the first step that fails
decides the error (R113 to R124; DESIGN CHOICE, notes/assumptions/10.md). -/
def execRdreply (ack len : Byte) (tail : List Byte) (s : State) : Outcome State Fault Refusal :=
  s.offer 3 (ack :: len :: tail)

end Sys2Proof.Machine
end

