-- ==== Sys2Proof/Machine/Dispatch.lean ====
section
/-! DEFINITION. The dispatch of an instruction to its meaning: one arm per row of the opcode table. -/

namespace Sys2Proof.Machine

def exec (i : Instr) (s : State) : Host.Outcome State Fault Refusal :=
  match i with
  | .write tag control value => Sys2Proof.Machine.execWrite tag control value s
  | .read tag control => Sys2Proof.Machine.execRead tag control s
  | .cancel tag => Sys2Proof.Machine.execCancel tag s
  | .schedReset => Sys2Proof.Machine.execSchedReset s
  | .wrframe control value => Sys2Proof.Machine.execWrframe control value s
  | .rdreq control => Sys2Proof.Machine.execRdreq control s
  | .rdreply ack len tail => Sys2Proof.Machine.execRdreply ack len tail s
  | .busWrite data => Sys2Proof.Machine.execBusWrite data s
  | .busRead n => Sys2Proof.Machine.execBusRead n s

end Sys2Proof.Machine
end

