-- ==== Sys2Proof/Machine/React.lean ====
section
/-!
DEFINITION. The reaction to one event taken from the pending ones (`00_scope.md` rules R12 to R14): a port word is decoded
and its instruction run; the other events have their own reactions.
-/

namespace Sys2Proof.Machine

open Host (Outcome)

/-- Decode a port word and run the instruction; a word that is none, or whose fields no port can carry, is refused. -/
def runWord (w : PortWord) (s : State) : Outcome State Fault Refusal :=
  match decode s.cfg.addr w with
  | .error e => .refused (.undecodable e)
  | .ok i => if i.wf s.params then exec i s else .refused .operandOutOfRange

/-- `react(S, E)` for the event taken from the pending ones (R12, R13). -/
def react (e : Input) (s : State) : Outcome State Fault Refusal :=
  match e with
  | .word w => runWord w s
  | .rsp r => s.respond r
  | .tick => s.tick
  | .hardReset => s.hardReset
  | .coincident c => .next { s with inputs := c.inOrder ++ s.inputs }

end Sys2Proof.Machine
end

