-- ==== Sys2Proof/Machine/Step.lean ====
section
/-!
DEFINITION. One step of the machine. The engine goes first: a transport request it owes, or an expiry of the delay, is
urgent (R13). Otherwise the oldest pending external event is processed to quiescence; with none, nothing changes (R12).
-/

namespace Sys2Proof.Machine

open Host (Outcome)

/-- One step: the urgent transitions first, then one external event (R12, R13). -/
def step (s : State) : Outcome State Fault Refusal :=
  match s.dueRequest with
  | some w => runWord w s
  | none =>
    if s.sched = .waiting ∧ s.waitLeft = 0 then .next s.expireToIdle
    else
      match s.inputs with
      | [] => .next s
      | e :: rest => react e { s with inputs := rest }

/-- The state in which the next event is the opcode-table word `w` of `nbits` bits, presented at its port: the block
loads no program, so this stands for the host's presenting it (notes/assumptions/5.md). -/
def State.withFetchWord (s : State) (nbits w : Nat) : State :=
  { s with inputs := .word (tableWord s.params.tagW nbits w) :: s.inputs }

end Sys2Proof.Machine
end

