-- ==== Sys2Proof/Machine/Script.lean ====
section
/-!
DEFINITION. The event script of `30_encoding.md` rule R91: one external event per line, `TICK n` being shorthand for
`n` ticks (R92), and the state in which a script is about to be processed.
-/

namespace Sys2Proof.Machine

/-- A line of the script (R91). -/
inductive ScriptLine where
  /-- `WRITE t, ctrl, value` -/
  | write (tag : Tag) (control : Byte) (value : BitVec 32)
  /-- `READ t, ctrl` -/
  | read (tag : Tag) (control : Byte)
  /-- `CANCEL t` -/
  | cancel (tag : Tag)
  /-- `SCHED_RESET` -/
  | schedReset
  /-- `TICK n` -/
  | tick (n : Nat)
  /-- `BUSRSP OK`, `BUSRSP OK b0 b1 ...`, `BUSRSP ERR e` -/
  | busRsp (r : BusRsp)
  /-- `HARDRESET` -/
  | hardReset
deriving DecidableEq, Repr

/-- The events of one line (R91, R92). -/
def ScriptLine.events : ScriptLine → List Input
  | .write tag control value => [.word (.cmd { op := 0, tag := tag, control := control, value := value })]
  | .read tag control => [.word (.cmd { op := 1, tag := tag, control := control, value := 0 })]
  | .cancel tag => [.word (.cmd { op := 2, tag := tag, control := 0, value := 0 })]
  | .schedReset => [.word (.cmd { op := 3, tag := 0, control := 0, value := 0 })]
  | .tick n => List.replicate n .tick
  | .busRsp r => [.rsp r]
  | .hardReset => [.hardReset]

/-- The state in which the lines of a script happen next, after the events already pending. -/
def State.withScript (s : State) (lines : List ScriptLine) : State :=
  { s with inputs := s.inputs ++ lines.flatMap ScriptLine.events }

end Sys2Proof.Machine
end

