-- ==== Sys2Proof/Safety.lean ====
section
/-!
DEFINITION. What a safe run of DDCCI-PE is, in the terms that statements use: the quiescent states and their
invariant (R37), and the readings of the observation that R16 allows (requests, ticks between them, completions).
-/

namespace Sys2Proof.Machine

open Host (Outcome)

/-! ### Runs -/

/-- `k` steps, stopping at the first fault or refusal. -/
def runSteps : Nat → State → Outcome State Fault Refusal
  | 0, s => .next s
  | k + 1, s =>
    match step s with
    | .next t => runSteps k t
    | .fault f => .fault f
    | .refused r => .refused r

/-! ### Quiescence and the invariant of R37 -/

/-- No internal transition is enabled: neither `DISPATCH` from `Idle` (R135) nor `EXPIRE` (R141). -/
def State.Quiescent (s : State) : Prop :=
  (s.sched = .idle → s.queue = []) ∧ (s.sched = .waiting → 0 < s.waitLeft)

/-- What every rule that makes an entry gives it: a tag of `TAG_W` bits and the frame of its kind (R24, R85). -/
def Entry.Wf (p : Config.Params) (addr : BitVec 7) (e : Entry) : Prop :=
  e.tag < 2 ^ p.tagW ∧
    match e.kind with
    | .txWrite => ∃ v, e.frame = buildWrite addr e.control v
    | .txRdreq => e.frame = buildRead addr e.control
    | .txRdfollow => e.frame = []

/-- The parser registers that the tail read fills hold no value (between events they never do, R28, R29). -/
def State.TailEmpty (s : State) : Prop := s.rxData = none ∧ s.rxCs = none ∧ s.acc = none

/-- The parser registers that the first two reads fill hold no value (R29). -/
def State.HeadEmpty (s : State) : Prop := s.rxAck = none ∧ s.rxLen = none ∧ s.dataLength = none

/-- What holds of the transaction in flight and of the registers that serve it, by its phase (R25, R27, R29). -/
def State.CurOk (s : State) (c : Cur) : Prop :=
  match c.phase with
  | .phWr => c.entry.kind ≠ .txRdfollow ∧ s.toLeft = 0 ∧ s.HeadEmpty
  | .phAck => c.entry.kind = .txRdfollow ∧ 1 ≤ s.toLeft ∧ s.toLeft ≤ s.cfg.readTimeout ∧ s.HeadEmpty
  | .phLen =>
    c.entry.kind = .txRdfollow ∧ 1 ≤ s.toLeft ∧ s.toLeft ≤ s.cfg.readTimeout ∧
      s.rxAck = some (seed s.cfg.addr .read) ∧ s.rxLen = none ∧ s.dataLength = none
  | .phTail =>
    c.entry.kind = .txRdfollow ∧ 1 ≤ s.toLeft ∧ s.toLeft ≤ s.cfg.readTimeout ∧
      s.rxAck = some (seed s.cfg.addr .read) ∧
      ∃ l, s.rxLen = some l ∧ s.dataLength = some (dataLengthOf l) ∧
        lengthAccepted s.cfg.strictLengthFlag s.cfg.maxDataLen l = true
  | .phDrain => c.entry.kind = .txRdfollow ∧ s.toLeft = 0

/-- The registers in each scheduler state (R29, R37 i to iii). -/
def State.SchedOk (s : State) : Prop :=
  match s.sched with
  | .idle => s.queue = [] ∧ s.cur = none ∧ s.waitLeft = 0 ∧ s.lastDir = none ∧ s.toLeft = 0 ∧ s.HeadEmpty
  | .dispatching =>
    s.waitLeft = 0 ∧ s.lastDir = none ∧
      ∃ c, s.cur = some c ∧ c.entry.Wf s.params s.cfg.addr ∧ s.CurOk c
  | .waiting =>
    s.cur = none ∧ s.toLeft = 0 ∧ s.HeadEmpty ∧
      ∃ d, s.lastDir = some d ∧ 1 ≤ s.waitLeft ∧ s.waitLeft ≤ s.cfg.delayAfter d

/-- The invariant of the states between events: R37 i to iv, with the windows of R29 and the ranges of R7 and R21. -/
structure State.Inv (s : State) : Prop where
  /-- the structural parameters are legal (R7) -/
  params : s.params.Legal
  /-- the configuration is legal (R21) -/
  cfg : s.cfg.Legal
  /-- every queued entry is one that a rule makes (R24) -/
  entries : ∀ e ∈ s.queue, e.Wf s.params s.cfg.addr
  /-- the queue never overflows, the reserved slot included (R37 iv) -/
  room : ∀ n, s.occupancy = some n → n ≤ s.params.queueDepth
  /-- the tail registers are empty between events (R29) -/
  tail : s.TailEmpty
  /-- the registers agree with the scheduler state (R29, R37 i to iii) -/
  sched : s.SchedOk

/-! ### Reading the observation (R16) -/

/-- Whether a request is outstanding after one more element, `out` saying whether one was before it. -/
@[simp] def Obs.outstandingAfter (out : Bool) : Obs → Bool
  | .request _ _ => true
  | .responded => false
  | .hardReset => false
  | .completed _ => out
  | .accepted _ => out
  | .ticked => out

/-- Whether a transport request is outstanding after this observation: one was emitted and not yet answered. -/
def outstanding (t : List Obs) : Bool := t.foldl Obs.outstandingAfter false

/-- Whether, after one more element, every request was emitted while none was outstanding; `p` holds whether one was
outstanding, and the answer so far. -/
@[simp] def Obs.oneInFlightAfter (p : Bool × Bool) (o : Obs) : Bool × Bool :=
  (o.outstandingAfter p.1,
    match o with
    | .request _ _ => p.2 && !p.1
    | _ => p.2)

/-- Whether every request of the observation was emitted while none was outstanding (R130). -/
def oneInFlight (t : List Obs) : Bool := (t.foldl (fun p o => o.oneInFlightAfter p) (false, true)).2

/-- The completions owed after one more element. -/
@[simp] def Obs.owedAfter (n : Int) : Obs → Int
  | .accepted _ => n + 1
  | .completed _ => n - 1
  | .hardReset => 0
  | .request _ _ => n
  | .responded => n
  | .ticked => n

/-- The completions owed after this observation: accepted commands less completions, since the last `HardReset`,
which forgets the live operations (R31, R37 vi, R223). -/
def owedCompletions (t : List Obs) : Int := t.foldl Obs.owedAfter 0

/-- The operations still live: those with an entry in the queue, or on the bus and not draining (R37 vi). -/
def State.liveOperations (s : State) : Nat :=
  s.queue.length +
    match s.cur with
    | some c => if c.phase = .phDrain then 0 else 1
    | none => 0

/-- The tags of the accepted operations after one more element. -/
@[simp] def Obs.acceptedAfter (tags : List Tag) : Obs → List Tag
  | .accepted tag => tags ++ [tag]
  | .hardReset => []
  | .completed _ => tags
  | .request _ _ => tags
  | .responded => tags
  | .ticked => tags

/-- The tags of the operations accepted since the last `HardReset`, in order (R31, R223). -/
def acceptedTags (t : List Obs) : List Tag := t.foldl Obs.acceptedAfter []

/-- The tags of the completed operations after one more element. -/
@[simp] def Obs.completedAfter (tags : List Tag) : Obs → List Tag
  | .completed c => tags ++ [c.tag]
  | .hardReset => []
  | .accepted _ => tags
  | .request _ _ => tags
  | .responded => tags
  | .ticked => tags

/-- The tags of the operations completed since the last `HardReset`, in order (R31, R223). -/
def completedTags (t : List Obs) : List Tag := t.foldl Obs.completedAfter []

/-- The tags of the live operations, those that `liveOperations` counts: of the queued entries, and of the transaction
on the bus unless it drains (R37 vi, R232). -/
def State.liveTags (s : State) : List Tag :=
  s.queue.map (fun e => e.tag) ++
    match s.cur with
    | some c => if c.phase = .phDrain then [] else [c.entry.tag]
    | none => []

/-- The ticks since the last response, after one more element. -/
@[simp] def Obs.ticksAfter (n : Nat) : Obs → Nat
  | .ticked => n + 1
  | .responded => 0
  | .request _ _ => n
  | .completed _ => n
  | .accepted _ => n
  | .hardReset => n

/-- How many ticks were processed since the last response (R148). -/
def ticksSinceResponse (t : List Obs) : Nat := t.foldl Obs.ticksAfter 0

/-- While the delay runs, the ticks since the response that ended the last transaction and the ticks left add up to
the delay of that transaction's direction (R138, R140). -/
def State.DelayCounted (s : State) : Prop :=
  s.sched = .waiting →
    ∃ d, s.lastDir = some d ∧ ticksSinceResponse s.trace + s.waitLeft = s.cfg.delayAfter d

/-- The completions of an observation, in order (R16). -/
def completionsOf (t : List Obs) : List Completion :=
  t.filterMap (fun o => match o with | .completed c => some c | _ => none)

/-- A completion carries a value only with `OK` and an error word only with `BusError` (R31). -/
abbrev Completion.Meaningful (c : Completion) : Prop :=
  (c.status = .ok ∨ (c.value = 0 ∧ c.maxValue = 0)) ∧ (c.status = .busError ∨ c.buserr = 0)

/-- The transport requests of an observation, in order (R16). -/
def requestsOf (t : List Obs) : List BusReq :=
  t.filterMap (fun o => match o with | .request _ r => some r | _ => none)

/-! ### The end of a transaction, as statements write it -/

/-- The state right after a transaction of direction `d` has completed and before any internal transition, with the
observations `obs` added: the delay of that direction is loaded, and `cur` and the parser registers hold no value
(R137, R138). -/
def State.ended (s : State) (d : Dir) (obs : List Obs) : State :=
  { s with
    sched := .waiting
    lastDir := some d
    waitLeft := match d with | .write => s.cfg.delayWrite | .read => s.cfg.delayRead
    toLeft := 0
    cur := none
    rxAck := none
    rxLen := none
    dataLength := none
    rxData := none
    rxCs := none
    acc := none
    trace := s.trace ++ obs }

/-- The completion that reports the outcome of a reply (R173, R174). -/
def completionOfReply (tag : Tag) : Except Status ReadResult → Completion
  | .ok r => { tag := tag, status := .ok, value := r.value, maxValue := r.maxValue, buserr := 0 }
  | .error st => { tag := tag, status := st, value := 0, maxValue := 0, buserr := 0 }

end Sys2Proof.Machine
end

