-- ==== Sys2Proof/Certificates/Slice0/Obligations.lean ====
section
/-!
DEFINITION. The statements about DDCCI-PE that the provers are given, in the order: encodings, codec and parser, the
instructions, the events, the machine, and what every step keeps.
-/

open Sys2Proof Sys2Proof.Machine

/-! ### Encodings -/

/-- Decoding the encoding of a well-formed instruction gives it back, at every address and with every operand. -/
def Obligations.DecodeOfEncodeIsTheInstruction : Prop :=
  ∀ (p : Config.Params) (addr : BitVec 7) (i : Instr), i.wf p = true → decode addr (encode addr i) = .ok i

/-- A frame, a reply and a transport word have at most one reading, and it uses every bit: encoding what the decoder
read gives the word back. (A command word's unused fields are ignored, R30.) For an outgoing frame this rests on the
decoder rejecting a wrong checksum byte, which the model read from the spec by inference (notes/assumptions/12.md). -/
def Obligations.EncodeOfDecodeIsTheWord : Prop :=
  ∀ (addr : BitVec 7) (w : PortWord) (i : Instr), (∀ c, w ≠ .cmd c) → decode addr w = .ok i → encode addr i = w

/-- R80, R81: `cmd_op` selects the command, all four values are used, and no command word is rejected. -/
def Obligations.CommandSelectorIsTotal : Prop :=
  ∀ (addr : BitVec 7) (tag : Tag) (control : Byte) (value : BitVec 32),
    decode addr (.cmd ⟨0, tag, control, value⟩) = .ok (.write tag control value) ∧
    decode addr (.cmd ⟨1, tag, control, value⟩) = .ok (.read tag control) ∧
    decode addr (.cmd ⟨2, tag, control, value⟩) = .ok (.cancel tag) ∧
    decode addr (.cmd ⟨3, tag, control, value⟩) = .ok .schedReset ∧
    ∀ op : BitVec 2, op = 0 ∨ op = 1 ∨ op = 2 ∨ op = 3

/-- A few words written out from the spec's encodings (`95_test_vectors.md`; R83 for the transport request) decode to what
they stand for, and a frame with another checksum byte is rejected, which the model read from the spec by inference
(notes/assumptions/12.md). -/
def Obligations.SpecWordsDecode : Prop :=
  decode 0x37 (.frame [0x51, 0x84, 0x03, 0x10, 0x00, 0x32, 0x9A]) = .ok (.wrframe 0x10 50) ∧
  decode 0x37 (.frame [0x51, 0x82, 0x01, 0x10, 0xAD]) = .ok (.rdreq 0x10) ∧
  decode 0x37 (.frame [0x51, 0x82, 0x01, 0x10, 0xAC]) = .error .checksum ∧
  decode 0x37 (.reply [0x6F, 0x83, 0x02, 0x00, 0x10, 0xAF]) = .ok (.rdreply 0x6F 0x83 [0x02, 0x00, 0x10, 0xAF]) ∧
  decode 0x37 (.busReq 1 9 []) = .ok (.busRead 9)

/-! ### Codec, builders and parser -/

/-- R105: the two seeds of an address differ, in bit 0 and only there, and so do the checksums of the same bytes. -/
def Obligations.SeedDirectionsDiffer : Prop :=
  ∀ (addr : BitVec 7) (bytes : List Byte),
    seed addr .read = seed addr .write ^^^ 0x01#8 ∧
    seed addr .write ≠ seed addr .read ∧
    checksum bytes (seed addr .read) = checksum bytes (seed addr .write) ^^^ 0x01#8 ∧
    checksum bytes (seed addr .write) ≠ checksum bytes (seed addr .read)

/-- R111, R112: the frames of the two builders, byte by byte. -/
def Obligations.BuildersReturnTheFrames : Prop :=
  ∀ (addr : BitVec 7) (control : Byte) (value : BitVec 16),
    buildWrite addr control value = buildFrame addr [0x03, control, value.extractLsb' 8 8, value.extractLsb' 0 8] .write ∧
    buildWrite addr control value =
      [0x51, 0x84, 0x03, control, value.extractLsb' 8 8, value.extractLsb' 0 8,
        (addr.zeroExtend 8 <<< 1) ^^^ 0xD6#8 ^^^ control ^^^ value.extractLsb' 8 8 ^^^ value.extractLsb' 0 8] ∧
    buildRead addr control = buildFrame addr [0x01, control] .read ∧
    buildRead addr control =
      [0x51, 0x82, 0x01, control, (addr.zeroExtend 8 <<< 1 ||| 1#8) ^^^ 0xD2#8 ^^^ control]

/-- R106: the checksum of a built frame without its last byte is its last byte; equivalently the whole frame folds
to zero. -/
def Obligations.BuiltFrameChecksumRoundTrip : Prop :=
  ∀ (addr : BitVec 7) (payload : List Byte) (dir : Dir),
    (buildFrame addr payload dir).getLast? =
      some (checksum (buildFrame addr payload dir).dropLast (seed addr dir)) ∧
    xorFold (seed addr dir) (buildFrame addr payload dir) = 0x00

/-- R107: one changed bit of one folded byte changes the fold in exactly that bit; one flipped bit among a reply's data
bytes or in its checksum byte makes the checksum test fail; two flips in the same position of two covered bytes
cancel, and the checksum test still passes. -/
def Obligations.SingleBitSensitivity : Prop :=
  (∀ (start : Byte) (pre post : List Byte) (b : Byte) (k : Nat), k < 8 →
    xorFold start (pre ++ (b ^^^ 1#8 <<< k) :: post) = xorFold start (pre ++ b :: post) ^^^ 1#8 <<< k) ∧
  (∀ (start : Byte) (pre mid post : List Byte) (b c : Byte) (k : Nat), k < 8 →
    xorFold start (pre ++ (b ^^^ 1#8 <<< k) :: mid ++ (c ^^^ 1#8 <<< k) :: post) =
      xorFold start (pre ++ b :: mid ++ c :: post)) ∧
  (∀ (addr : BitVec 7) (control : Byte) (n i k : Nat) (tail : List Byte),
    tail.length = n + 1 → i ≤ n → k < 8 → replyChecksum addr n (tail.take n) = tail.getD n 0 →
    checkTail addr control n (tail.set i (tail.getD i 0 ^^^ 1#8 <<< k)) = .error .checksumError) ∧
  (∀ (addr : BitVec 7) (n i j k : Nat) (tail tail' : List Byte),
    tail.length = n + 1 → i ≤ n → j ≤ n → i ≠ j → k < 8 → replyChecksum addr n (tail.take n) = tail.getD n 0 →
    tail' = (tail.set i (tail.getD i 0 ^^^ 1#8 <<< k)).set j (tail.getD j 0 ^^^ 1#8 <<< k) →
    replyChecksum addr n (tail'.take n) = tail'.getD n 0)

/-- R124: `parse_response` answers a ReadResult exactly for the replies that pass every test, and then it is the two
big-endian fields. -/
def Obligations.ReplyAcceptedExactlyWhenAllTestsPass : Prop :=
  ∀ (addr maxDataLen : BitVec 7) (strict : Bool) (control ack len : Byte) (tail : List Byte) (r : ReadResult),
    parseResponse addr maxDataLen strict control ack len tail = .ok r ↔
      ack = (addr.zeroExtend 8 <<< 1 ||| 1#8) ∧
      (strict = true → len.getLsbD 7 = true) ∧
      (dataLengthOf len).toNat ≤ maxDataLen.toNat ∧
      8 ≤ (dataLengthOf len).toNat ∧
      (dataLengthOf len).toNat + 1 ≤ tail.length ∧
      xorFold (seed addr .read)
        (0x51 :: (0x80#8 ||| BitVec.ofNat 8 (dataLengthOf len).toNat) :: tail.take (dataLengthOf len).toNat) =
          tail.getD (dataLengthOf len).toNat 0 ∧
      tail.getD 0 0 = 0x02 ∧
      tail.getD 2 0 = control ∧
      r.value = ((tail.getD 6 0).zeroExtend 16 <<< 8 ||| (tail.getD 7 0).zeroExtend 16) ∧
      r.maxValue = ((tail.getD 4 0).zeroExtend 16 <<< 8 ||| (tail.getD 5 0).zeroExtend 16)

/-- R124: the whole of `parse_response`, test by test: the first test that fails, in the order of the rule, gives the
outcome, and a reply that passes them all gives the two big-endian fields. -/
def Obligations.ReplyOutcomeIsTheFirstFailingTest : Prop :=
  ∀ (addr maxDataLen : BitVec 7) (strict : Bool) (control ack len : Byte) (tail : List Byte) (n : Nat),
    n = (len &&& 0x7F#8).toNat →
      parseResponse addr maxDataLen strict control ack len tail =
        if ack ≠ (addr.zeroExtend 8 <<< 1 ||| 1#8) then .error .ackInvalid
        else if strict = true ∧ len.getLsbD 7 = false then .error .malformedLength
        else if maxDataLen.toNat < n then .error .malformedLength
        else if tail.length < n + 1 then .error .truncatedResponse
        else if xorFold (addr.zeroExtend 8 <<< 1 ||| 1#8) (0x51 :: (0x80#8 ||| BitVec.ofNat 8 n) :: tail.take n) ≠
            tail.getD n 0 then .error .checksumError
        else if n < 1 then .error .truncatedResponse
        else if tail.getD 0 0 ≠ 0x02 then .error .unexpectedReplyType
        else if n < 3 then .error .truncatedResponse
        else if tail.getD 2 0 ≠ control then .error .controlMismatch
        else if n < 8 then .error .truncatedResponse
        else .ok
          { maxValue := (tail.getD 4 0).zeroExtend 16 <<< 8 ||| (tail.getD 5 0).zeroExtend 16
            value := (tail.getD 6 0).zeroExtend 16 <<< 8 ||| (tail.getD 7 0).zeroExtend 16 }

/-- R125, R121: a reply that one control code accepts is rejected with `ControlMismatch` for every other one. -/
def Obligations.ControlBindingIsExact : Prop :=
  ∀ (addr maxDataLen : BitVec 7) (strict : Bool) (control other ack len : Byte) (tail : List Byte) (r : ReadResult),
    parseResponse addr maxDataLen strict control ack len tail = .ok r → other ≠ control →
      parseResponse addr maxDataLen strict other ack len tail = .error .controlMismatch

/-- R123: the data bytes at index 1, 3, 8 and above count for the checksum, as every data byte does, and for nothing
else, and every `data_length` from 8 to `MAX_DATA_LEN` can yield a result. -/
def Obligations.UnexaminedReplyFields : Prop :=
  (∀ (addr : BitVec 7) (control : Byte) (n n' : Nat) (tail tail' : List Byte),
    8 ≤ n → 8 ≤ n' → n + 1 ≤ tail.length → n' + 1 ≤ tail'.length →
    replyChecksum addr n (tail.take n) = tail.getD n 0 →
    replyChecksum addr n' (tail'.take n') = tail'.getD n' 0 →
    (∀ i ∈ [0, 2, 4, 5, 6, 7], tail.getD i 0 = tail'.getD i 0) →
    checkTail addr control n tail = checkTail addr control n' tail') ∧
  (∀ (addr : BitVec 7) (n i : Nat) (data : List Byte) (d : Byte), i < data.length →
    replyChecksum addr n (data.set i (data.getD i 0 ^^^ d)) = replyChecksum addr n data ^^^ d) ∧
  (∀ (addr maxDataLen : BitVec 7) (strict : Bool) (control : Byte) (n : Nat), 8 ≤ n → n ≤ maxDataLen.toNat →
    ∃ ack len tail r, (dataLengthOf len).toNat = n ∧ tail.length = n + 1 ∧
      parseResponse addr maxDataLen strict control ack len tail = .ok r)

/-- R126: what one flipped bit does to an otherwise valid reply of `data_length = 8`, by position. -/
def Obligations.OneFlippedBitInAReply : Prop :=
  ∀ (addr maxDataLen : BitVec 7) (strict : Bool) (control ack : Byte) (tail : List Byte) (r : ReadResult),
    parseResponse addr maxDataLen strict control ack 0x88 tail = .ok r → tail.length = 9 →
      (∀ k, k < 8 →
        parseResponse addr maxDataLen strict control (ack ^^^ 1#8 <<< k) 0x88 tail = .error .ackInvalid) ∧
      (parseResponse addr maxDataLen strict control ack 0x08 tail =
        if strict then .error .malformedLength else .ok r) ∧
      (parseResponse addr maxDataLen strict control ack 0x80 (tail.take 1) =
        if addr = 0x69 then .error .truncatedResponse else .error .checksumError) ∧
      (∀ p ∈ [(0, 9), (1, 10), (2, 12), (4, 24), (5, 40), (6, 72)],
        (dataLengthOf (0x88#8 ^^^ 1#8 <<< p.1)).toNat = p.2 ∧ ∀ tail' : List Byte,
          parseResponse addr maxDataLen strict control ack (0x88#8 ^^^ 1#8 <<< p.1) tail' =
            if maxDataLen.toNat < p.2 then .error .malformedLength
            else if tail'.length < p.2 + 1 then .error .truncatedResponse
            else checkTail addr control p.2 tail') ∧
      (∀ i k, i ≤ 8 → k < 8 →
        parseResponse addr maxDataLen strict control ack 0x88 (tail.set i (tail.getD i 0 ^^^ 1#8 <<< k)) =
          .error .checksumError)

/-! ### The host commands -/

/-- R160, R161, R134, R142: a WRITE that is accepted completes: from `Idle` its frame is on the bus in the same
reaction; while a transaction is on the bus or the delay runs it joins the tail of the queue. Everything else in the
state is as before. The frame carries bits 15 to 0 of `cmd_value`. -/
def Obligations.WriteSendsOrQueuesItsFrame : Prop :=
  ∀ (s : State) (tag : Tag) (control : Byte) (value : BitVec 32) (e : Entry),
    e = { tag := tag, kind := .txWrite, control := control,
          frame := [0x51, 0x84, 0x03, control, value.extractLsb' 8 8, value.extractLsb' 0 8,
            (s.cfg.addr.zeroExtend 8 <<< 1) ^^^ 0xD6#8 ^^^ control ^^^ value.extractLsb' 8 8 ^^^
              value.extractLsb' 0 8] } →
      (s.sched = .idle → s.queue = [] → 1 ≤ s.params.queueDepth →
        exec (.write tag control value) s =
          .next { s with
            sched := .dispatching
            cur := some { entry := e, phase := .phWr }
            lastDir := none
            trace := s.trace ++ [.accepted tag, .request s.cfg.addr (.busWrite e.frame)] }) ∧
      (∀ c, s.sched = .dispatching → s.cur = some c →
        s.queue.length + (if c.entry.kind = .txRdreq then 1 else 0) < s.params.queueDepth →
        exec (.write tag control value) s =
          .next { s with queue := s.queue ++ [e], trace := s.trace ++ [.accepted tag] }) ∧
      (s.sched = .waiting → 1 ≤ s.waitLeft → s.queue.length < s.params.queueDepth →
        exec (.write tag control value) s =
          .next { s with queue := s.queue ++ [e], trace := s.trace ++ [.accepted tag] })

/-- R162, R112: a READ that is accepted completes in the same way, with its request frame, which carries the read
seed although it is sent by a transport write. -/
def Obligations.ReadSendsOrQueuesItsRequest : Prop :=
  ∀ (s : State) (tag : Tag) (control : Byte) (e : Entry),
    e = { tag := tag, kind := .txRdreq, control := control,
          frame := [0x51, 0x82, 0x01, control,
            (s.cfg.addr.zeroExtend 8 <<< 1 ||| 1#8) ^^^ 0xD2#8 ^^^ control] } →
      (s.sched = .idle → s.queue = [] → 1 ≤ s.params.queueDepth →
        exec (.read tag control) s =
          .next { s with
            sched := .dispatching
            cur := some { entry := e, phase := .phWr }
            lastDir := none
            trace := s.trace ++ [.accepted tag, .request s.cfg.addr (.busWrite e.frame)] }) ∧
      (∀ c, s.sched = .dispatching → s.cur = some c →
        s.queue.length + (if c.entry.kind = .txRdreq then 1 else 0) < s.params.queueDepth →
        exec (.read tag control) s =
          .next { s with queue := s.queue ++ [e], trace := s.trace ++ [.accepted tag] }) ∧
      (s.sched = .waiting → 1 ≤ s.waitLeft → s.queue.length < s.params.queueDepth →
        exec (.read tag control) s =
          .next { s with queue := s.queue ++ [e], trace := s.trace ++ [.accepted tag] })

/-- R132 with R226 a: WRITE and READ are accepted exactly while `occupancy < QUEUE_DEPTH`, and have no step otherwise;
CANCEL and SCHED_RESET are accepted in every state. That the refusal to step is a fault named `cmdNotReady` is the
model's form of the spec's `stuck` (notes/assumptions/6.md). -/
def Obligations.AcceptedExactlyWhenReady : Prop :=
  ∀ (s : State) (n : Nat),
    ((s.sched ≠ .dispatching ∧ n = s.queue.length) ∨
      (s.sched = .dispatching ∧ ∃ c, s.cur = some c ∧
        n = s.queue.length + if c.entry.kind = .txRdreq then 1 else 0)) →
      s.cmdReady = decide (n < s.params.queueDepth) ∧
      (∀ tag control value,
        (n < s.params.queueDepth → ∃ t, exec (.write tag control value) s = .next t) ∧
        (s.params.queueDepth ≤ n → exec (.write tag control value) s = .fault .cmdNotReady)) ∧
      (∀ tag control,
        (n < s.params.queueDepth → ∃ t, exec (.read tag control) s = .next t) ∧
        (s.params.queueDepth ≤ n → exec (.read tag control) s = .fault .cmdNotReady)) ∧
      (∀ tag, ∃ t, exec (.cancel tag) s = .next t) ∧
      ∃ t, exec .schedReset s = .next t

/-- R144: CANCEL removes the queued entry of that tag nearest the head and completes its operation with `Cancelled`;
with no such entry it does nothing. No other register changes in either case. -/
def Obligations.CancelRemovesTheFirstOfItsTag : Prop :=
  ∀ (s : State) (tag : Tag),
    (∀ (pre post : List Entry) (e : Entry), s.queue = pre ++ e :: post → e.tag = tag → (∀ x ∈ pre, x.tag ≠ tag) →
      exec (.cancel tag) s =
        .next { s with
          queue := pre ++ post
          trace := s.trace ++
            [.completed { tag := tag, status := .cancelled, value := 0, maxValue := 0, buserr := 0 }] }) ∧
    ((∀ x ∈ s.queue, x.tag ≠ tag) → exec (.cancel tag) s = .next s)

/-- R146: SCHED_RESET completes every queued operation with `Cancelled`, head first, empties the queue, and in
`Waiting` ends the delay and goes to `Idle`; in the other states nothing else changes, so a transaction on the bus goes
on (R147). `cmd_ready` is 1 afterwards unless a read request is on the bus and the queue has one slot, and `idle` is 1 if
the state was `Waiting`. -/
def Obligations.SchedResetCancelsTheQueue : Prop :=
  ∀ s : State,
    (s.sched = .waiting →
      exec .schedReset s =
        .next { s with
          queue := []
          waitLeft := 0
          lastDir := none
          sched := .idle
          trace := s.trace ++ s.queue.map (fun e =>
            .completed { tag := e.tag, status := .cancelled, value := 0, maxValue := 0, buserr := 0 }) }) ∧
    (s.sched ≠ .waiting →
      exec .schedReset s =
        .next { s with
          queue := []
          trace := s.trace ++ s.queue.map (fun e =>
            .completed { tag := e.tag, status := .cancelled, value := 0, maxValue := 0, buserr := 0 }) }) ∧
    (1 ≤ s.params.queueDepth → ∀ t, exec .schedReset s = .next t →
      (s.sched ≠ .dispatching → t.cmdReady = true) ∧
      (∀ c, s.sched = .dispatching → s.cur = some c →
        (t.cmdReady = false ↔ c.entry.kind = .txRdreq ∧ s.params.queueDepth = 1)) ∧
      (s.sched = .waiting → t.idleOut = true))

/-! ### The frames -/

/-- R111: WRFRAME completes in every state. The frame it returns is the seven bytes of the rule; that the model keeps the
returned frame in its own field `built` is its choice (notes/assumptions/11.md). Nothing else changes. -/
def Obligations.WrframeReturnsTheWriteFrame : Prop :=
  ∀ (s : State) (control : Byte) (value : BitVec 16),
    exec (.wrframe control value) s =
      .next { s with built := some (
        [0x51, 0x84, 0x03, control, value.extractLsb' 8 8, value.extractLsb' 0 8,
          seed s.cfg.addr .write ^^^ 0xD6#8 ^^^ control ^^^ value.extractLsb' 8 8 ^^^ value.extractLsb' 0 8]) }

/-- R112: RDREQ completes in every state. The frame it returns is the five bytes of the rule, with the read seed; that the
model keeps the returned frame in its own field `built` is its choice (notes/assumptions/11.md). Nothing else changes. -/
def Obligations.RdreqReturnsTheReadRequest : Prop :=
  ∀ (s : State) (control : Byte),
    exec (.rdreq control) s =
      .next { s with built := some ([0x51, 0x82, 0x01, control, seed s.cfg.addr .read ^^^ 0xD2#8 ^^^ control]) }

/-- R113, R124, R170 to R174: a reply offered to a follow-up that awaits its ack byte is fetched phase by phase, and
the operation ends as the one-piece `parse_response` says: the same status, the same values, no read issued after the
first failing step, and the delay of a read. That RDREPLY is an offer of a reply's bytes to the reads in flight is the
model's choice (notes/assumptions/10.md). -/
def Obligations.ReplyByPhasesRefinesParseResponse : Prop :=
  ∀ (s : State) (c : Cur) (ack len : Byte) (tail : List Byte),
    s.sched = .dispatching → s.cur = some c → c.entry.kind = .txRdfollow → c.phase = .phAck →
      exec (.rdreply ack len tail) s =
        .next
          (s.ended .read
            (.responded ::
              ((if ackAccepted s.cfg.addr ack then
                  .request s.cfg.addr (.busRead 1) :: .responded ::
                    (if lengthAccepted s.cfg.strictLengthFlag s.cfg.maxDataLen len then
                        [.request s.cfg.addr (.busRead ((dataLengthOf len).toNat + 1)), .responded]
                      else [])
                else []) ++
              [.completed (completionOfReply c.entry.tag
                (parseResponse s.cfg.addr s.cfg.maxDataLen s.cfg.strictLengthFlag c.entry.control ack len
                  tail))]))).settle

/-- R54, R171, R172, R175, R230: bytes offered to a follow-up that has already fetched a part of a reply are taken from
where it stands, whatever reply they belong to; while draining one response is discarded with no completion. That
offered bytes feed each further read of the follow-up is the model's choice (notes/assumptions/10.md), and how many bytes
a draining read takes is inferred (notes/assumptions/9.md). -/
def Obligations.OfferedBytesMeetThePhaseTheyFind : Prop :=
  ∀ (s : State) (c : Cur) (ack len : Byte) (tail : List Byte),
    s.sched = .dispatching → s.cur = some c → c.entry.kind = .txRdfollow →
      (c.phase = .phLen →
        exec (.rdreply ack len tail) s =
          .next
            (s.ended .read
              (.responded ::
                ((if lengthAccepted s.cfg.strictLengthFlag s.cfg.maxDataLen ack then
                    [.request s.cfg.addr (.busRead ((dataLengthOf ack).toNat + 1)), .responded]
                  else []) ++
                [.completed (completionOfReply c.entry.tag
                  (if lengthAccepted s.cfg.strictLengthFlag s.cfg.maxDataLen ack then
                    checkTail s.cfg.addr c.entry.control (dataLengthOf ack).toNat (len :: tail)
                  else .error .malformedLength))]))).settle) ∧
      (∀ d, c.phase = .phTail → s.dataLength = some d →
        exec (.rdreply ack len tail) s =
          .next
            (s.ended .read
              [.responded,
                .completed (completionOfReply c.entry.tag
                  (checkTail s.cfg.addr c.entry.control d.toNat (ack :: len :: tail)))]).settle) ∧
      (c.phase = .phDrain →
        exec (.rdreply ack len tail) s = .next (s.ended .read [.responded]).settle)

/-- R226 b, c: a reply has no step where no request is outstanding, and is refused as the answer to a `BUS_WRITE`.
The names of the fault and the refusal are the model's (notes/assumptions/6.md). -/
def Obligations.ReplyNeedsAnOutstandingRead : Prop :=
  ∀ (s : State) (ack len : Byte) (tail : List Byte),
    (s.sched ≠ .dispatching → exec (.rdreply ack len tail) s = .fault .unexpectedResponse) ∧
    (∀ c, s.sched = .dispatching → s.cur = some c → c.phase = .phWr →
      exec (.rdreply ack len tail) s = .refused .wrongShape)

/-! ### The transport requests -/

/-- R135, R136, R141, R169: where a dispatch is enabled, BUS_WRITE of the head's frame, or BUS_READ of one byte for a
follow-up, completes: the head leaves the queue for `cur`, its phase and timer are set, `last_dir` loses its value, and
that one request is emitted. Everything else is as before. That the two requests run as instructions here is inferred
(notes/assumptions/14.md), and so is that `last_dir` loses its value on leaving `Waiting` (R29; notes/assumptions/7.md). -/
def Obligations.DispatchOfTheHead : Prop :=
  ∀ (s : State) (e : Entry) (q : List Entry),
    (s.sched = .idle ∨ (s.sched = .waiting ∧ s.waitLeft = 0)) → s.queue = e :: q →
      (e.kind ≠ .txRdfollow →
        exec (.busWrite e.frame) s =
          .next { s with
            queue := q
            sched := .dispatching
            cur := some { entry := e, phase := .phWr }
            lastDir := none
            trace := s.trace ++ [.request s.cfg.addr (.busWrite e.frame)] }) ∧
      (e.kind = .txRdfollow →
        exec (.busRead 1) s =
          .next { s with
            queue := q
            sched := .dispatching
            cur := some { entry := e, phase := .phAck }
            lastDir := none
            toLeft := s.cfg.readTimeout
            trace := s.trace ++ [.request s.cfg.addr (.busRead 1)] })

/-- R170, R171: in the middle of a follow-up's reaction, with the byte just received accepted, BUS_READ of one byte
moves it to the length read, and BUS_READ of `data_length + 1` bytes to the tail read. -/
def Obligations.NextReadOfAFollowUp : Prop :=
  ∀ (s : State) (c : Cur), s.sched = .dispatching → s.cur = some c →
    (c.phase = .phAck → s.rxAck = some (seed s.cfg.addr .read) →
      exec (.busRead 1) s =
        .next { s with
          cur := some { c with phase := .phLen }
          trace := s.trace ++ [.request s.cfg.addr (.busRead 1)] }) ∧
    (∀ l d, c.phase = .phLen → s.rxLen = some l → s.dataLength = some d →
      (s.cfg.strictLengthFlag = true → l.getLsbD 7 = true) → dataLengthOf l ≤ s.cfg.maxDataLen →
      exec (.busRead (d.toNat + 1)) s =
        .next { s with
          cur := some { c with phase := .phTail }
          trace := s.trace ++ [.request s.cfg.addr (.busRead (d.toNat + 1))] })

/-- R130: in the states between events, where a request is outstanding exactly while `Dispatching`, the block owes no
request, so a BUS_WRITE or BUS_READ that it did not itself select has no step. That this is a fault named
`requestNotDue` is the model's form (notes/assumptions/6.md). -/
def Obligations.NoRequestWithoutDispatch : Prop :=
  ∀ (s : State) (data : List Byte) (n : Nat), s.Inv →
    exec (.busWrite data) s = .fault .requestNotDue ∧ exec (.busRead n) s = .fault .requestNotDue

/-! ### Responses -/

/-- R163, R138: the response to the `BUS_WRITE` of a WRITE ends the operation, with `OK` or with `BusError` and the
transport's word, and the transaction, with the delay of a write. (Here and below `settle` is what goes on in the same
reaction; `ZeroDelayGoesOnInTheSameReaction` spells it out.) -/
def Obligations.WriteResponseEndsTheWrite : Prop :=
  ∀ (s : State) (c : Cur), s.sched = .dispatching → s.cur = some c → c.phase = .phWr → c.entry.kind = .txWrite →
    s.respond .ok =
      .next (s.ended .write
        [.responded, .completed { tag := c.entry.tag, status := .ok, value := 0, maxValue := 0, buserr := 0 }]).settle ∧
    ∀ err, err < 2 ^ s.params.buserrW →
      s.respond (.err err) =
        .next (s.ended .write
          [.responded,
            .completed { tag := c.entry.tag, status := .busError, value := 0, maxValue := 0, buserr := err }]).settle

/-- R164: an acknowledged read request emits no completion and puts its follow-up, with the same tag and control code,
at the tail of the queue; a failed one ends the READ with `BusError`. Either way the delay of a write follows. -/
def Obligations.RequestResponseQueuesTheFollowUp : Prop :=
  ∀ (s : State) (c : Cur), s.sched = .dispatching → s.cur = some c → c.phase = .phWr → c.entry.kind = .txRdreq →
    s.respond .ok =
      .next (({ s with
        queue := s.queue ++
          [{ tag := c.entry.tag, kind := .txRdfollow, control := c.entry.control, frame := [] }] } : State).ended
            .write [.responded]).settle ∧
    ∀ err, err < 2 ^ s.params.buserrW →
      s.respond (.err err) =
        .next (s.ended .write
          [.responded,
            .completed { tag := c.entry.tag, status := .busError, value := 0, maxValue := 0, buserr := err }]).settle

/-- R170, R171: the responses to the ack read and to the length read: the accepted byte is kept and the next read
issued; every other answer ends the READ with its status and the delay of a read. -/
def Obligations.AckAndLengthResponses : Prop :=
  ∀ (s : State) (c : Cur), s.sched = .dispatching → s.cur = some c → c.entry.kind = .txRdfollow →
    (c.phase = .phAck →
      (∀ a, a = seed s.cfg.addr .read →
        s.respond (.bytes [a]) =
          .next { s with
            rxAck := some a
            cur := some { c with phase := .phLen }
            trace := s.trace ++ [.responded, .request s.cfg.addr (.busRead 1)] }) ∧
      (∀ a, a ≠ seed s.cfg.addr .read →
        s.respond (.bytes [a]) =
          .next (s.ended .read
            [.responded, .completed (completionOfReply c.entry.tag (.error .ackInvalid))]).settle)) ∧
    (c.phase = .phLen →
      (∀ l, (s.cfg.strictLengthFlag = true → l.getLsbD 7 = true) → dataLengthOf l ≤ s.cfg.maxDataLen →
        s.respond (.bytes [l]) =
          .next { s with
            rxLen := some l
            dataLength := some (dataLengthOf l)
            cur := some { c with phase := .phTail }
            trace := s.trace ++ [.responded, .request s.cfg.addr (.busRead ((dataLengthOf l).toNat + 1))] }) ∧
      (∀ l, (s.cfg.strictLengthFlag = true ∧ l.getLsbD 7 = false) ∨ s.cfg.maxDataLen < dataLengthOf l →
        s.respond (.bytes [l]) =
          .next (s.ended .read
            [.responded, .completed (completionOfReply c.entry.tag (.error .malformedLength))]).settle)) ∧
    (c.phase = .phAck ∨ c.phase = .phLen →
      s.respond (.bytes []) =
        .next (s.ended .read
          [.responded, .completed (completionOfReply c.entry.tag (.error .truncatedResponse))]).settle ∧
      ∀ err, err < 2 ^ s.params.buserrW →
        s.respond (.err err) =
          .next (s.ended .read
            [.responded,
              .completed { tag := c.entry.tag, status := .busError, value := 0, maxValue := 0, buserr := err }]).settle)

/-- R172 to R174: the response to the tail read ends the READ, with the outcome of steps 3 to 7 on the bytes received,
or with `BusError`, and with the delay of a read. -/
def Obligations.TailResponseEndsTheRead : Prop :=
  ∀ (s : State) (c : Cur) (d : BitVec 7), s.sched = .dispatching → s.cur = some c → c.entry.kind = .txRdfollow →
    c.phase = .phTail → s.dataLength = some d →
      (∀ tail : List Byte, tail.length ≤ d.toNat + 1 →
        s.respond (.bytes tail) =
          .next (s.ended .read
            [.responded,
              .completed (completionOfReply c.entry.tag
                (checkTail s.cfg.addr c.entry.control d.toNat tail))]).settle) ∧
      ∀ err, err < 2 ^ s.params.buserrW →
        s.respond (.err err) =
          .next (s.ended .read
            [.responded,
              .completed { tag := c.entry.tag, status := .busError, value := 0, maxValue := 0, buserr := err }]).settle

/-- R175: any response that a draining follow-up may get is discarded: no completion, and the transaction ends with the
delay of a read. Which responses it may get, those of the read at which the timeout struck, as long as `data_length` tells,
is inferred from R33, R226 c and R29 (notes/assumptions/9.md). -/
def Obligations.DrainDiscardsTheResponse : Prop :=
  ∀ (s : State) (c : Cur), s.sched = .dispatching → s.cur = some c → c.entry.kind = .txRdfollow → c.phase = .phDrain →
    (∀ bs : List Byte, bs.length ≤ 1 →
      s.respond (.bytes bs) = .next (s.ended .read [.responded]).settle) ∧
    (∀ (bs : List Byte) (d : BitVec 7), s.dataLength = some d → bs.length ≤ d.toNat + 1 →
      s.respond (.bytes bs) = .next (s.ended .read [.responded]).settle) ∧
    ∀ err, err < 2 ^ s.params.buserrW → s.respond (.err err) = .next (s.ended .read [.responded]).settle

/-- R138, R141: what follows the end of a transaction in the same reaction. With a delay of at least one tick nothing
does. With a delay of 0 the block is `Idle` if its queue is empty, and otherwise has the head of the queue on the bus, its
request emitted; so the response that ends a WRITE, or acknowledges a read request, emits the next request itself. That
`last_dir` then holds no value is inferred from R29 (notes/assumptions/7.md). -/
def Obligations.ZeroDelayGoesOnInTheSameReaction : Prop :=
  (∀ (s : State) (d : Dir) (obs : List Obs) (delay : Nat),
    delay = (match d with | .write => s.cfg.delayWrite | .read => s.cfg.delayRead) →
      (1 ≤ delay → (s.ended d obs).settle = s.ended d obs) ∧
      (delay = 0 → s.queue = [] →
        (s.ended d obs).settle = { s.ended d obs with sched := .idle, lastDir := none }) ∧
      (∀ e q, delay = 0 → s.queue = e :: q → e.kind ≠ .txRdfollow →
        (s.ended d obs).settle =
          { s.ended d obs with
            queue := q
            sched := .dispatching
            cur := some { entry := e, phase := .phWr }
            lastDir := none
            trace := s.trace ++ obs ++ [.request s.cfg.addr (.busWrite e.frame)] }) ∧
      (∀ e q, delay = 0 → s.queue = e :: q → e.kind = .txRdfollow →
        (s.ended d obs).settle =
          { s.ended d obs with
            queue := q
            sched := .dispatching
            cur := some { entry := e, phase := .phAck }
            lastDir := none
            toLeft := s.cfg.readTimeout
            trace := s.trace ++ obs ++ [.request s.cfg.addr (.busRead 1)] })) ∧
  (∀ (s : State) (c : Cur) (e : Entry) (q : List Entry),
    s.sched = .dispatching → s.cur = some c → c.phase = .phWr → c.entry.kind = .txWrite → s.cfg.delayWrite = 0 →
    s.queue = e :: q → e.kind ≠ .txRdfollow →
      ∃ t, s.respond .ok = .next t ∧ t.sched = .dispatching ∧ t.queue = q ∧
        t.cur = some { entry := e, phase := .phWr } ∧
        t.trace = s.trace ++
          [.responded,
            .completed { tag := c.entry.tag, status := .ok, value := 0, maxValue := 0, buserr := 0 },
            .request s.cfg.addr (.busWrite e.frame)]) ∧
  (∀ (s : State) (c : Cur),
    s.sched = .dispatching → s.cur = some c → c.phase = .phWr → c.entry.kind = .txRdreq → s.cfg.delayWrite = 0 →
    s.queue = [] →
      ∃ t, s.respond .ok = .next t ∧ t.sched = .dispatching ∧ t.queue = [] ∧
        t.cur = some { entry := c.followUp, phase := .phAck } ∧ t.toLeft = s.cfg.readTimeout ∧
        t.trace = s.trace ++ [.responded, .request s.cfg.addr (.busRead 1)])

/-- R204, R150, R139: an error that arises on the bus emits exactly one completion, with that status and with the
transport's word for `BusError` alone, emits no request, leaves the queue alone, and ends the transaction with the delay
of its direction. -/
def Obligations.RaisedErrorIsOneCompletion : Prop :=
  ∀ (s : State) (c : Cur) (st : Status) (info : BusErr),
    s.raise c st info =
      s.ended c.entry.kind.dir
        [.completed { tag := c.entry.tag, status := st, value := 0, maxValue := 0,
                      buserr := if st = .busError then info else 0 }] ∧
    completionsOf (s.raise c st info).trace =
      completionsOf s.trace ++
        [{ tag := c.entry.tag, status := st, value := 0, maxValue := 0,
           buserr := if st = .busError then info else 0 }] ∧
    requestsOf (s.raise c st info).trace = requestsOf s.trace ∧
    (s.raise c st info).queue = s.queue

/-! ### Ticks -/

/-- R140, R143, R176: what one tick does in each scheduler state, between events: nothing but being counted in `Idle`,
in a write phase and while draining; the delay counter goes down while `Waiting`; the timeout counter goes down during
the three reads, and the tick that brings it to zero ends the READ with `Timeout` and leaves the transaction to be
drained. -/
def Obligations.OneTick : Prop :=
  ∀ s : State,
    (s.sched = .idle → s.queue = [] → s.tick = .next { s with trace := s.trace ++ [.ticked] }) ∧
    (s.sched = .waiting → 2 ≤ s.waitLeft →
      s.tick = .next { s with waitLeft := s.waitLeft - 1, trace := s.trace ++ [.ticked] }) ∧
    (s.sched = .waiting → s.waitLeft ≤ 1 → s.queue = [] →
      s.tick = .next { s with sched := .idle, waitLeft := 0, lastDir := none, trace := s.trace ++ [.ticked] }) ∧
    (∀ c, s.sched = .dispatching → s.cur = some c →
      (c.phase = .phWr ∨ c.phase = .phDrain → s.tick = .next { s with trace := s.trace ++ [.ticked] }) ∧
      (c.entry.kind = .txRdfollow → c.phase = .phAck ∨ c.phase = .phLen ∨ c.phase = .phTail →
        (2 ≤ s.toLeft → s.tick = .next { s with toLeft := s.toLeft - 1, trace := s.trace ++ [.ticked] }) ∧
        (s.toLeft = 1 →
          s.tick = .next { s with
            toLeft := 0
            cur := some { c with phase := .phDrain }
            trace := s.trace ++
              [.ticked,
                .completed
                  { tag := c.entry.tag, status := .timeout, value := 0, maxValue := 0, buserr := 0 }] })))

/-- R141: the tick that ends the delay dispatches the head of a queue that is not empty, in the same reaction. That
`last_dir` then holds no value is inferred from R29 (notes/assumptions/7.md). -/
def Obligations.DelayExpiryDispatchesTheHead : Prop :=
  ∀ (s : State) (e : Entry) (q : List Entry),
    s.sched = .waiting → s.waitLeft = 1 → s.queue = e :: q →
      ∃ t, s.tick = .next t ∧ t.sched = .dispatching ∧ t.queue = q ∧ t.waitLeft = 0 ∧ t.lastDir = none ∧
        t.trace = s.trace ++
          [.ticked, .request s.cfg.addr
            (match e.kind with | .txRdfollow => .busRead 1 | _ => .busWrite e.frame)] ∧
        t.cur = some { entry := e, phase := match e.kind with | .txRdfollow => .phAck | _ => .phWr } ∧
        t.toLeft = match e.kind with | .txRdfollow => s.cfg.readTimeout | _ => s.toLeft

/-- R140, R148, R149: with `n + 1` ticks of the delay left and nothing else happening, the machine waits through `n`
ticks and on the next one is `Idle` (empty queue) or has the head of the queue on the bus; it is never early. -/
def Obligations.DelayLastsItsTicks : Prop :=
  ∀ (s : State) (n m : Nat),
    s.sched = .waiting → s.waitLeft = n + 1 → s.inputs = List.replicate (n + 1) .tick →
      (m ≤ n → ∃ t, runSteps m s = .next t ∧ t.sched = .waiting ∧
        t.waitLeft = n + 1 - m ∧ t.queue = s.queue ∧ requestsOf t.trace = requestsOf s.trace) ∧
      (s.queue = [] → ∃ t, runSteps (n + 1) s = .next t ∧ t.sched = .idle) ∧
      (∀ e q, s.queue = e :: q → ∃ t ph, runSteps (n + 1) s = .next t ∧
        t.sched = .dispatching ∧ t.cur = some { entry := e, phase := ph } ∧ t.queue = q)

/-- R176, R200: a follow-up whose reads stay unanswered gets `Timeout` on the `READ_TIMEOUT`-th tick after its dispatch,
not before, and its transaction stays on the bus. -/
def Obligations.TimeoutOnTheLastTick : Prop :=
  ∀ (s : State) (c : Cur) (n m : Nat), s.Inv →
    s.sched = .dispatching → s.cur = some c → c.phase = .phAck ∨ c.phase = .phLen ∨ c.phase = .phTail →
    s.toLeft = n + 1 → s.inputs = List.replicate (n + 1) .tick →
      (m ≤ n → ∃ t, runSteps m s = .next t ∧ t.cur = some c ∧ t.toLeft = n + 1 - m ∧
        completionsOf t.trace = completionsOf s.trace) ∧
      ∃ t, runSteps (n + 1) s = .next t ∧
        t.sched = .dispatching ∧ t.cur = some { c with phase := .phDrain } ∧
        completionsOf t.trace = completionsOf s.trace ++
          [{ tag := c.entry.tag, status := .timeout, value := 0, maxValue := 0, buserr := 0 }]

/-! ### Reset, configuration, codes -/

/-- R38, R220: `HardReset`, in any state, samples the straps and puts every other register to its reset value; it emits
no request and no completion. -/
def Obligations.HardResetResetsEveryRegister : Prop :=
  ∀ s : State, 1 ≤ s.straps.readTimeout → 8 ≤ s.straps.maxDataLen.toNat →
    s.hardReset =
      .next { s with
        cfg :=
          { addr := s.straps.addr.getD 0x37
            delayWrite := s.straps.delayWrite.getD 60
            delayRead := s.straps.delayRead.getD 60
            readTimeout := s.straps.readTimeout
            maxDataLen := s.straps.maxDataLen
            strictLengthFlag := s.straps.strictLengthFlag }
        sched := .idle
        queue := []
        cur := none
        waitLeft := 0
        lastDir := none
        toLeft := 0
        rxAck := none
        rxLen := none
        dataLength := none
        rxData := none
        rxCs := none
        acc := none
        built := none
        trace := s.trace ++ [.hardReset] }

/-- R21: a strap outside its legal range is refused at `HardReset`. -/
def Obligations.IllegalStrapsAreRefused : Prop :=
  ∀ s : State, s.straps.readTimeout = 0 ∨ s.straps.maxDataLen < 8 → s.hardReset = .refused .strapOutOfRange

/-- R38, R32: the state after reset holds what the rule's table says, with the defaults of R21 for the three straps that
have one, and drives the status outputs as the rule says. -/
def Obligations.ResetStateIsR38 : Prop :=
  State.reset.cfg = State.reset.straps.sample ∧ State.reset.cfg.addr = 0x37 ∧
  State.reset.cfg.delayWrite = 60 ∧ State.reset.cfg.delayRead = 60 ∧
  State.reset.sched = .idle ∧ State.reset.queue = [] ∧ State.reset.cur = none ∧ State.reset.waitLeft = 0 ∧
  State.reset.lastDir = none ∧ State.reset.toLeft = 0 ∧ State.reset.rxAck = none ∧ State.reset.rxLen = none ∧
  State.reset.dataLength = none ∧ State.reset.rxData = none ∧ State.reset.rxCs = none ∧ State.reset.acc = none ∧
  State.reset.cmdReady = true ∧ State.reset.idleOut = true ∧ State.reset.busyBus = false ∧ State.reset.trace = []

/-- R21: no event but `HardReset` changes the configuration, and that one samples the straps; the straps and the
structural parameters never change. -/
def Obligations.ConfigurationIsConstant : Prop :=
  ∀ s t : State, step s = .next t →
    t.params = s.params ∧ t.straps = s.straps ∧
      (t.cfg = s.cfg ∨ (∃ rest, s.inputs = .hardReset :: rest) ∧ t.cfg = s.straps.sample)

/-- R32, R30, R132: the status outputs are functions of the state: `idle` exactly in `Idle`, `busy_bus` exactly in
`Dispatching`, `cmd_ready` exactly while the queue, with the slot reserved for the follow-up of a read request on the
bus, has room; and their values at reset. -/
def Obligations.StatusOutputsFollowTheState : Prop :=
  (∀ s : State,
    (s.idleOut = true ↔ s.sched = .idle) ∧
    (s.busyBus = true ↔ s.sched = .dispatching) ∧
    (s.sched ≠ .dispatching → (s.cmdReady = true ↔ s.queue.length < s.params.queueDepth)) ∧
    ∀ c, s.sched = .dispatching → s.cur = some c →
      (s.cmdReady = true ↔
        s.queue.length + (if c.entry.kind = .txRdreq then 1 else 0) < s.params.queueDepth)) ∧
  State.reset.cmdReady = true ∧ State.reset.idleOut = true ∧ State.reset.busyBus = false

/-- R190: the ten statuses and their codes; they are distinct, and every status has one of the codes 0 to 9. -/
def Obligations.StatusCodes : Prop :=
  Status.ok.code = 0 ∧ Status.busError.code = 1 ∧ Status.ackInvalid.code = 2 ∧ Status.malformedLength.code = 3 ∧
  Status.checksumError.code = 4 ∧ Status.unexpectedReplyType.code = 5 ∧ Status.controlMismatch.code = 6 ∧
  Status.truncatedResponse.code = 7 ∧ Status.cancelled.code = 8 ∧ Status.timeout.code = 9 ∧
  (∀ st st' : Status, st.code = st'.code → st = st') ∧ (∀ st : Status, st.code.toNat ≤ 9) ∧
  (∀ st : Status, st.isProtocolError = true ↔ 2 ≤ st.code.toNat ∧ st.code.toNat ≤ 7)

/-! ### The step -/

/-- A step runs the decoded instruction: where no request is due and no expiry is enabled, and the oldest event is a
port word that decodes to a well-formed instruction, the step is that instruction's meaning, on the state without the
event. -/
def Obligations.StepRunsThePresentedInstruction : Prop :=
  ∀ (s : State) (w : PortWord) (rest : List Input) (i : Instr),
    s.dueRequest = none → ¬ (s.sched = .waiting ∧ s.waitLeft = 0) → s.inputs = .word w :: rest →
    decode s.cfg.addr w = .ok i → i.wf s.params = true → step s = exec i { s with inputs := rest }

/-- R13: a request the block owes goes before every external event: the step runs that BUS_WRITE or BUS_READ. That an owed
request is run as an instruction, by a step of its own, is inferred (notes/assumptions/14.md). -/
def Obligations.StepRunsTheDueRequestFirst : Prop :=
  ∀ (s : State) (w : PortWord) (i : Instr),
    s.dueRequest = some w → decode s.cfg.addr w = .ok i → i.wf s.params = true → step s = exec i s

/-- `withFetchWord` presents its word as the next event: between events, the very next step runs the instruction that
the decoder reads from it. -/
def Obligations.FetchWordRunsNext : Prop :=
  ∀ (s : State) (nbits w : Nat) (i : Instr), s.Inv →
    decode s.cfg.addr (tableWord s.params.tagW nbits w) = .ok i → i.wf s.params = true →
      step (s.withFetchWord nbits w) = exec i s

/-- R12: between events the state does not change. -/
def Obligations.NoEventNoChange : Prop := ∀ s : State, s.Inv → s.inputs = [] → step s = .next s

/-- R14: the events of one cycle are processed in the order `HardReset`, which discards the others, `BusRsp`, `Tick`,
`Cmd`. That such a cycle is one input, which a step of its own expands, and that later events are kept, is inferred
(notes/assumptions/17.md). -/
def Obligations.CoincidentEventsInFixedOrder : Prop :=
  ∀ (s : State) (c : Coincident) (rest : List Input), s.Inv → s.inputs = .coincident c :: rest →
    step s = .next { s with
      inputs :=
        if c.hardReset then .hardReset :: rest
        else
          c.rsp.toList.map Input.rsp ++ (if c.tick then [.tick] else []) ++
            c.cmd.toList.map (fun w => .word (.cmd w)) ++ rest }

/-! ### What every step keeps -/

/-- R131, R24, R133: no step reorders, merges or edits queued entries. What is left of the queue is the old queue in its
old order, or what a dispatch of the head, a CANCEL, a SCHED_RESET or a `HardReset` leaves of it; and what joins it, at the
tail, is nothing, the entry of the WRITE or READ just taken, or the follow-up of the read request just acknowledged. -/
def Obligations.QueueStaysInOrder : Prop :=
  ∀ s t : State, step s = .next t →
    ∃ kept joined, t.queue = kept ++ joined ∧
      (kept = s.queue ∨
        (∃ e ph, s.queue = e :: kept ∧ t.cur = some { entry := e, phase := ph }) ∨
        (∃ c rest pre e post, s.inputs = .word (.cmd c) :: rest ∧ c.op = 2 ∧ s.queue = pre ++ e :: post ∧
          e.tag = c.tag ∧ (∀ x ∈ pre, x.tag ≠ c.tag) ∧ kept = pre ++ post) ∨
        (kept = [] ∧ ∃ c rest, s.inputs = .word (.cmd c) :: rest ∧ c.op = 3) ∨
        (kept = [] ∧ ∃ rest, s.inputs = .hardReset :: rest)) ∧
      (joined = [] ∨
        (∃ c rest, s.inputs = .word (.cmd c) :: rest ∧ c.op = 0 ∧
          joined = [writeEntry s.cfg.addr c.tag c.control c.value]) ∨
        (∃ c rest, s.inputs = .word (.cmd c) :: rest ∧ c.op = 1 ∧
          joined = [readEntry s.cfg.addr c.tag c.control]) ∨
        (∃ c rest, s.inputs = .rsp .ok :: rest ∧ s.cur = some c ∧ c.entry.kind = .txRdreq ∧ c.phase = .phWr ∧
          joined = [c.followUp]))

/-- The invariant, (i) to (iv) of R37 with the windows of R29, holds after reset. -/
def Obligations.ResetMeetsTheInvariant : Prop := State.reset.Inv

/-- (i) to (iv) of R37, with the windows of R29 and R25 to R27: every step from a state that meets them answers a
state that meets them, whatever events happen. (R37 v is `OneFollowUpPerRead`, R37 vi `OneCompletionPerOperation`.) -/
def Obligations.EveryStepKeepsTheInvariant : Prop :=
  ∀ s t : State, s.Inv → step s = .next t → t.Inv

/-- R130, R37 ii: every step keeps it true that a request is outstanding exactly while `Dispatching` and that every
request ever emitted was emitted while none was outstanding. -/
def Obligations.AtMostOneRequestInFlight : Prop :=
  ∀ s t : State, s.Inv → outstanding s.trace = (s.sched == .dispatching) → oneInFlight s.trace = true →
    step s = .next t → outstanding t.trace = (t.sched == .dispatching) ∧ oneInFlight t.trace = true

/-- R31, R37 vi: every step keeps the accepted operations equal to the completions emitted and the operations still
live, in number and tag by tag, since the last `HardReset`: no operation is reported twice and none is lost. -/
def Obligations.OneCompletionPerOperation : Prop :=
  ∀ s t : State, s.Inv → step s = .next t →
    (owedCompletions s.trace = s.liveOperations → owedCompletions t.trace = t.liveOperations) ∧
    ((acceptedTags s.trace).Perm (completedTags s.trace ++ s.liveTags) →
      (acceptedTags t.trace).Perm (completedTags t.trace ++ t.liveTags))

/-- R37 v with the host's duty of R232: where the tags of the live operations differ and the host gives a new operation
none of them, every step keeps them different, so that no READ has two follow-ups queued. Whatever the tags, a follow-up
joins the queue only as that of the read request on the bus, which the transport has just acknowledged, and only
once. -/
def Obligations.OneFollowUpPerRead : Prop :=
  ∀ s t : State, s.Inv → step s = .next t →
    (s.liveTags.Nodup →
      (∀ c rest, s.inputs = .word (.cmd c) :: rest → c.op = 0 ∨ c.op = 1 → c.tag ∉ s.liveTags) →
        t.liveTags.Nodup ∧
          ∀ tag, (t.queue.filter (fun e => e.kind = .txRdfollow ∧ e.tag = tag)).length ≤ 1) ∧
    ∀ x : Entry, x.kind = .txRdfollow → s.queue.count x < t.queue.count x →
      t.queue.count x = s.queue.count x + 1 ∧
        ∃ c rest, s.cur = some c ∧ c.entry.kind = .txRdreq ∧ c.phase = .phWr ∧ s.inputs = .rsp .ok :: rest ∧
          x = { tag := c.entry.tag, kind := .txRdfollow, control := c.entry.control, frame := [] }

/-- R239: between events in `Idle` every accepted operation has had its completion, and nothing is owed to the bus. -/
def Obligations.IdleMeansEverythingIsAnswered : Prop :=
  ∀ s : State, s.Inv → owedCompletions s.trace = s.liveOperations → s.sched = .idle →
    owedCompletions s.trace = 0 ∧ s.dueRequest = none

/-- R31: every step keeps it true that every completion ever emitted carries a value only with `OK` and an error word only
with `BusError`, and zero there otherwise. (That the `OK` of a WRITE carries none is `ValuesComeOnlyFromReads`.) -/
def Obligations.CompletionsCarryOnlyWhatTheyMean : Prop :=
  ∀ s t : State, (∀ c ∈ completionsOf s.trace, c.Meaningful) → step s = .next t →
    ∀ c ∈ completionsOf t.trace, c.Meaningful

/-- R31, R173, R174: a step adds to the observation, and a completion it adds carries a value only where it is the `OK`
of a READ, whose follow-up was on the bus, and an error word only where its status is `BusError`. -/
def Obligations.ValuesComeOnlyFromReads : Prop :=
  ∀ s t : State, s.Inv → step s = .next t →
    ∃ new, t.trace = s.trace ++ new ∧ ∀ c ∈ completionsOf new,
      (c.value ≠ 0 ∨ c.maxValue ≠ 0 →
        c.status = .ok ∧ ∃ cu, s.cur = some cu ∧ cu.entry.kind = .txRdfollow ∧ cu.entry.tag = c.tag) ∧
      (c.buserr ≠ 0 → c.status = .busError)

/-- R16: no step rewrites what has been observed; it only adds to it. -/
def Obligations.ObservationOnlyGrows : Prop := ∀ s t : State, step s = .next t → s.trace <+: t.trace

/-- R138, R140, R148: every step keeps the count of the running delay, and where a step leads from the delay to the bus
at least the delay of the last transaction's direction, in ticks, has passed since its last response. The exception of
R228 is outside it: a SCHED_RESET while `Waiting` ends the delay and leads to `Idle`, and a command taken there is on the
bus sooner. -/
def Obligations.MinimumDelayBetweenTransactions : Prop :=
  ∀ s t : State, s.Inv → s.DelayCounted → step s = .next t →
    t.DelayCounted ∧
      (s.sched = .waiting → t.sched = .dispatching →
        ∀ d, s.lastDir = some d → s.cfg.delayAfter d ≤ ticksSinceResponse t.trace)
end

