-- ==== Sys2Proof/Laws/Observation.lean ====
section
/-!
SUPPORT. How the readings of the observation go on when elements are appended to it.
-/

namespace Sys2Proof.Machine

@[simp] theorem outstanding_append (t u : List Obs) :
    outstanding (t ++ u) = u.foldl Obs.outstandingAfter (outstanding t) := by
  simp [outstanding]

/-- The first component that `oneInFlight` folds is `outstanding`. -/
theorem oneInFlight_fst (t : List Obs) (p : Bool × Bool) :
    (t.foldl (fun p o => o.oneInFlightAfter p) p).1 = t.foldl Obs.outstandingAfter p.1 := by
  induction t generalizing p with
  | nil => rfl
  | cons o t ih => exact ih _

@[simp] theorem oneInFlight_append (t u : List Obs) :
    oneInFlight (t ++ u) = (u.foldl (fun p o => o.oneInFlightAfter p) (outstanding t, oneInFlight t)).2 := by
  rw [outstanding, ← oneInFlight_fst t (false, true), oneInFlight, oneInFlight, List.foldl_append]

@[simp] theorem owedCompletions_append (t u : List Obs) :
    owedCompletions (t ++ u) = u.foldl Obs.owedAfter (owedCompletions t) := by
  simp [owedCompletions]

@[simp] theorem acceptedTags_append (t u : List Obs) :
    acceptedTags (t ++ u) = u.foldl Obs.acceptedAfter (acceptedTags t) := by
  simp [acceptedTags]

@[simp] theorem completedTags_append (t u : List Obs) :
    completedTags (t ++ u) = u.foldl Obs.completedAfter (completedTags t) := by
  simp [completedTags]

/-- The live operations are as many as their tags. -/
theorem State.length_liveTags (s : State) : s.liveTags.length = s.liveOperations := by
  unfold State.liveTags State.liveOperations
  cases s.cur with
  | none => simp
  | some c => by_cases h : c.phase = .phDrain <;> simp [h]

@[simp] theorem ticksSinceResponse_append (t u : List Obs) :
    ticksSinceResponse (t ++ u) = u.foldl Obs.ticksAfter (ticksSinceResponse t) := by
  simp [ticksSinceResponse]

@[simp] theorem completionsOf_append (t u : List Obs) :
    completionsOf (t ++ u) = completionsOf t ++ completionsOf u := by
  simp [completionsOf]

@[simp] theorem requestsOf_append (t u : List Obs) : requestsOf (t ++ u) = requestsOf t ++ requestsOf u := by
  simp [requestsOf]

end Sys2Proof.Machine
end

