-- ==== Sys2Proof/Laws/State.lean ====
section
/-!
SUPPORT. What each update of the state does to each field: one lemma per field per update, so that no later proof
unfolds a record update.
-/

namespace Sys2Proof.Machine

/-! ### emit: append one observation -/

@[simp] theorem State.emit_params (s : State) (o : Obs) :
    (s.emit o).params = s.params := rfl
@[simp] theorem State.emit_straps (s : State) (o : Obs) :
    (s.emit o).straps = s.straps := rfl
@[simp] theorem State.emit_cfg (s : State) (o : Obs) :
    (s.emit o).cfg = s.cfg := rfl
@[simp] theorem State.emit_sched (s : State) (o : Obs) :
    (s.emit o).sched = s.sched := rfl
@[simp] theorem State.emit_queue (s : State) (o : Obs) :
    (s.emit o).queue = s.queue := rfl
@[simp] theorem State.emit_cur (s : State) (o : Obs) :
    (s.emit o).cur = s.cur := rfl
@[simp] theorem State.emit_waitLeft (s : State) (o : Obs) :
    (s.emit o).waitLeft = s.waitLeft := rfl
@[simp] theorem State.emit_lastDir (s : State) (o : Obs) :
    (s.emit o).lastDir = s.lastDir := rfl
@[simp] theorem State.emit_toLeft (s : State) (o : Obs) :
    (s.emit o).toLeft = s.toLeft := rfl
@[simp] theorem State.emit_rxAck (s : State) (o : Obs) :
    (s.emit o).rxAck = s.rxAck := rfl
@[simp] theorem State.emit_rxLen (s : State) (o : Obs) :
    (s.emit o).rxLen = s.rxLen := rfl
@[simp] theorem State.emit_dataLength (s : State) (o : Obs) :
    (s.emit o).dataLength = s.dataLength := rfl
@[simp] theorem State.emit_rxData (s : State) (o : Obs) :
    (s.emit o).rxData = s.rxData := rfl
@[simp] theorem State.emit_rxCs (s : State) (o : Obs) :
    (s.emit o).rxCs = s.rxCs := rfl
@[simp] theorem State.emit_acc (s : State) (o : Obs) :
    (s.emit o).acc = s.acc := rfl
@[simp] theorem State.emit_inputs (s : State) (o : Obs) :
    (s.emit o).inputs = s.inputs := rfl
@[simp] theorem State.emit_built (s : State) (o : Obs) :
    (s.emit o).built = s.built := rfl
@[simp] theorem State.emit_trace (s : State) (o : Obs) :
    (s.emit o).trace = s.trace ++ [o] := rfl

/-! ### request: emit a transport request -/

@[simp] theorem State.request_params (s : State) (r : BusReq) :
    (s.request r).params = s.params := rfl
@[simp] theorem State.request_straps (s : State) (r : BusReq) :
    (s.request r).straps = s.straps := rfl
@[simp] theorem State.request_cfg (s : State) (r : BusReq) :
    (s.request r).cfg = s.cfg := rfl
@[simp] theorem State.request_sched (s : State) (r : BusReq) :
    (s.request r).sched = s.sched := rfl
@[simp] theorem State.request_queue (s : State) (r : BusReq) :
    (s.request r).queue = s.queue := rfl
@[simp] theorem State.request_cur (s : State) (r : BusReq) :
    (s.request r).cur = s.cur := rfl
@[simp] theorem State.request_waitLeft (s : State) (r : BusReq) :
    (s.request r).waitLeft = s.waitLeft := rfl
@[simp] theorem State.request_lastDir (s : State) (r : BusReq) :
    (s.request r).lastDir = s.lastDir := rfl
@[simp] theorem State.request_toLeft (s : State) (r : BusReq) :
    (s.request r).toLeft = s.toLeft := rfl
@[simp] theorem State.request_rxAck (s : State) (r : BusReq) :
    (s.request r).rxAck = s.rxAck := rfl
@[simp] theorem State.request_rxLen (s : State) (r : BusReq) :
    (s.request r).rxLen = s.rxLen := rfl
@[simp] theorem State.request_dataLength (s : State) (r : BusReq) :
    (s.request r).dataLength = s.dataLength := rfl
@[simp] theorem State.request_rxData (s : State) (r : BusReq) :
    (s.request r).rxData = s.rxData := rfl
@[simp] theorem State.request_rxCs (s : State) (r : BusReq) :
    (s.request r).rxCs = s.rxCs := rfl
@[simp] theorem State.request_acc (s : State) (r : BusReq) :
    (s.request r).acc = s.acc := rfl
@[simp] theorem State.request_inputs (s : State) (r : BusReq) :
    (s.request r).inputs = s.inputs := rfl
@[simp] theorem State.request_built (s : State) (r : BusReq) :
    (s.request r).built = s.built := rfl
@[simp] theorem State.request_trace (s : State) (r : BusReq) :
    (s.request r).trace = s.trace ++ [.request s.cfg.addr r] := rfl

/-! ### complete: emit a completion -/

@[simp] theorem State.complete_params (s : State) (k : Completion) :
    (s.complete k).params = s.params := rfl
@[simp] theorem State.complete_straps (s : State) (k : Completion) :
    (s.complete k).straps = s.straps := rfl
@[simp] theorem State.complete_cfg (s : State) (k : Completion) :
    (s.complete k).cfg = s.cfg := rfl
@[simp] theorem State.complete_sched (s : State) (k : Completion) :
    (s.complete k).sched = s.sched := rfl
@[simp] theorem State.complete_queue (s : State) (k : Completion) :
    (s.complete k).queue = s.queue := rfl
@[simp] theorem State.complete_cur (s : State) (k : Completion) :
    (s.complete k).cur = s.cur := rfl
@[simp] theorem State.complete_waitLeft (s : State) (k : Completion) :
    (s.complete k).waitLeft = s.waitLeft := rfl
@[simp] theorem State.complete_lastDir (s : State) (k : Completion) :
    (s.complete k).lastDir = s.lastDir := rfl
@[simp] theorem State.complete_toLeft (s : State) (k : Completion) :
    (s.complete k).toLeft = s.toLeft := rfl
@[simp] theorem State.complete_rxAck (s : State) (k : Completion) :
    (s.complete k).rxAck = s.rxAck := rfl
@[simp] theorem State.complete_rxLen (s : State) (k : Completion) :
    (s.complete k).rxLen = s.rxLen := rfl
@[simp] theorem State.complete_dataLength (s : State) (k : Completion) :
    (s.complete k).dataLength = s.dataLength := rfl
@[simp] theorem State.complete_rxData (s : State) (k : Completion) :
    (s.complete k).rxData = s.rxData := rfl
@[simp] theorem State.complete_rxCs (s : State) (k : Completion) :
    (s.complete k).rxCs = s.rxCs := rfl
@[simp] theorem State.complete_acc (s : State) (k : Completion) :
    (s.complete k).acc = s.acc := rfl
@[simp] theorem State.complete_inputs (s : State) (k : Completion) :
    (s.complete k).inputs = s.inputs := rfl
@[simp] theorem State.complete_built (s : State) (k : Completion) :
    (s.complete k).built = s.built := rfl
@[simp] theorem State.complete_trace (s : State) (k : Completion) :
    (s.complete k).trace = s.trace ++ [.completed k] := rfl

/-! ### enqueue: enqueue -/

@[simp] theorem State.enqueue_params (s : State) (e : Entry) :
    (s.enqueue e).params = s.params := rfl
@[simp] theorem State.enqueue_straps (s : State) (e : Entry) :
    (s.enqueue e).straps = s.straps := rfl
@[simp] theorem State.enqueue_cfg (s : State) (e : Entry) :
    (s.enqueue e).cfg = s.cfg := rfl
@[simp] theorem State.enqueue_sched (s : State) (e : Entry) :
    (s.enqueue e).sched = s.sched := rfl
@[simp] theorem State.enqueue_queue (s : State) (e : Entry) :
    (s.enqueue e).queue = s.queue ++ [e] := rfl
@[simp] theorem State.enqueue_cur (s : State) (e : Entry) :
    (s.enqueue e).cur = s.cur := rfl
@[simp] theorem State.enqueue_waitLeft (s : State) (e : Entry) :
    (s.enqueue e).waitLeft = s.waitLeft := rfl
@[simp] theorem State.enqueue_lastDir (s : State) (e : Entry) :
    (s.enqueue e).lastDir = s.lastDir := rfl
@[simp] theorem State.enqueue_toLeft (s : State) (e : Entry) :
    (s.enqueue e).toLeft = s.toLeft := rfl
@[simp] theorem State.enqueue_rxAck (s : State) (e : Entry) :
    (s.enqueue e).rxAck = s.rxAck := rfl
@[simp] theorem State.enqueue_rxLen (s : State) (e : Entry) :
    (s.enqueue e).rxLen = s.rxLen := rfl
@[simp] theorem State.enqueue_dataLength (s : State) (e : Entry) :
    (s.enqueue e).dataLength = s.dataLength := rfl
@[simp] theorem State.enqueue_rxData (s : State) (e : Entry) :
    (s.enqueue e).rxData = s.rxData := rfl
@[simp] theorem State.enqueue_rxCs (s : State) (e : Entry) :
    (s.enqueue e).rxCs = s.rxCs := rfl
@[simp] theorem State.enqueue_acc (s : State) (e : Entry) :
    (s.enqueue e).acc = s.acc := rfl
@[simp] theorem State.enqueue_inputs (s : State) (e : Entry) :
    (s.enqueue e).inputs = s.inputs := rfl
@[simp] theorem State.enqueue_built (s : State) (e : Entry) :
    (s.enqueue e).built = s.built := rfl
@[simp] theorem State.enqueue_trace (s : State) (e : Entry) :
    (s.enqueue e).trace = s.trace := rfl

/-! ### expireToIdle: expire with an empty queue -/

@[simp] theorem State.expireToIdle_params (s : State) :
    (s.expireToIdle).params = s.params := rfl
@[simp] theorem State.expireToIdle_straps (s : State) :
    (s.expireToIdle).straps = s.straps := rfl
@[simp] theorem State.expireToIdle_cfg (s : State) :
    (s.expireToIdle).cfg = s.cfg := rfl
@[simp] theorem State.expireToIdle_sched (s : State) :
    (s.expireToIdle).sched = .idle := rfl
@[simp] theorem State.expireToIdle_queue (s : State) :
    (s.expireToIdle).queue = s.queue := rfl
@[simp] theorem State.expireToIdle_cur (s : State) :
    (s.expireToIdle).cur = s.cur := rfl
@[simp] theorem State.expireToIdle_waitLeft (s : State) :
    (s.expireToIdle).waitLeft = s.waitLeft := rfl
@[simp] theorem State.expireToIdle_lastDir (s : State) :
    (s.expireToIdle).lastDir = none := rfl
@[simp] theorem State.expireToIdle_toLeft (s : State) :
    (s.expireToIdle).toLeft = s.toLeft := rfl
@[simp] theorem State.expireToIdle_rxAck (s : State) :
    (s.expireToIdle).rxAck = s.rxAck := rfl
@[simp] theorem State.expireToIdle_rxLen (s : State) :
    (s.expireToIdle).rxLen = s.rxLen := rfl
@[simp] theorem State.expireToIdle_dataLength (s : State) :
    (s.expireToIdle).dataLength = s.dataLength := rfl
@[simp] theorem State.expireToIdle_rxData (s : State) :
    (s.expireToIdle).rxData = s.rxData := rfl
@[simp] theorem State.expireToIdle_rxCs (s : State) :
    (s.expireToIdle).rxCs = s.rxCs := rfl
@[simp] theorem State.expireToIdle_acc (s : State) :
    (s.expireToIdle).acc = s.acc := rfl
@[simp] theorem State.expireToIdle_inputs (s : State) :
    (s.expireToIdle).inputs = s.inputs := rfl
@[simp] theorem State.expireToIdle_built (s : State) :
    (s.expireToIdle).built = s.built := rfl
@[simp] theorem State.expireToIdle_trace (s : State) :
    (s.expireToIdle).trace = s.trace := rfl

/-! ### clearParser: clear the parser registers -/

@[simp] theorem State.clearParser_params (s : State) :
    (s.clearParser).params = s.params := rfl
@[simp] theorem State.clearParser_straps (s : State) :
    (s.clearParser).straps = s.straps := rfl
@[simp] theorem State.clearParser_cfg (s : State) :
    (s.clearParser).cfg = s.cfg := rfl
@[simp] theorem State.clearParser_sched (s : State) :
    (s.clearParser).sched = s.sched := rfl
@[simp] theorem State.clearParser_queue (s : State) :
    (s.clearParser).queue = s.queue := rfl
@[simp] theorem State.clearParser_cur (s : State) :
    (s.clearParser).cur = s.cur := rfl
@[simp] theorem State.clearParser_waitLeft (s : State) :
    (s.clearParser).waitLeft = s.waitLeft := rfl
@[simp] theorem State.clearParser_lastDir (s : State) :
    (s.clearParser).lastDir = s.lastDir := rfl
@[simp] theorem State.clearParser_toLeft (s : State) :
    (s.clearParser).toLeft = s.toLeft := rfl
@[simp] theorem State.clearParser_rxAck (s : State) :
    (s.clearParser).rxAck = none := rfl
@[simp] theorem State.clearParser_rxLen (s : State) :
    (s.clearParser).rxLen = none := rfl
@[simp] theorem State.clearParser_dataLength (s : State) :
    (s.clearParser).dataLength = none := rfl
@[simp] theorem State.clearParser_rxData (s : State) :
    (s.clearParser).rxData = none := rfl
@[simp] theorem State.clearParser_rxCs (s : State) :
    (s.clearParser).rxCs = none := rfl
@[simp] theorem State.clearParser_acc (s : State) :
    (s.clearParser).acc = none := rfl
@[simp] theorem State.clearParser_inputs (s : State) :
    (s.clearParser).inputs = s.inputs := rfl
@[simp] theorem State.clearParser_built (s : State) :
    (s.clearParser).built = s.built := rfl
@[simp] theorem State.clearParser_trace (s : State) :
    (s.clearParser).trace = s.trace := rfl

/-! ### finishTransaction: the end of a transaction (R138) -/

@[simp] theorem State.finishTransaction_params (s : State) (c : Cur) :
    (s.finishTransaction c).params = s.params := rfl
@[simp] theorem State.finishTransaction_straps (s : State) (c : Cur) :
    (s.finishTransaction c).straps = s.straps := rfl
@[simp] theorem State.finishTransaction_cfg (s : State) (c : Cur) :
    (s.finishTransaction c).cfg = s.cfg := rfl
@[simp] theorem State.finishTransaction_sched (s : State) (c : Cur) :
    (s.finishTransaction c).sched = .waiting := rfl
@[simp] theorem State.finishTransaction_queue (s : State) (c : Cur) :
    (s.finishTransaction c).queue = s.queue := rfl
@[simp] theorem State.finishTransaction_cur (s : State) (c : Cur) :
    (s.finishTransaction c).cur = none := rfl
@[simp] theorem State.finishTransaction_waitLeft (s : State) (c : Cur) :
    (s.finishTransaction c).waitLeft = s.cfg.delayAfter c.dir := rfl
@[simp] theorem State.finishTransaction_lastDir (s : State) (c : Cur) :
    (s.finishTransaction c).lastDir = some c.dir := rfl
@[simp] theorem State.finishTransaction_toLeft (s : State) (c : Cur) :
    (s.finishTransaction c).toLeft = 0 := rfl
@[simp] theorem State.finishTransaction_rxAck (s : State) (c : Cur) :
    (s.finishTransaction c).rxAck = none := rfl
@[simp] theorem State.finishTransaction_rxLen (s : State) (c : Cur) :
    (s.finishTransaction c).rxLen = none := rfl
@[simp] theorem State.finishTransaction_dataLength (s : State) (c : Cur) :
    (s.finishTransaction c).dataLength = none := rfl
@[simp] theorem State.finishTransaction_rxData (s : State) (c : Cur) :
    (s.finishTransaction c).rxData = none := rfl
@[simp] theorem State.finishTransaction_rxCs (s : State) (c : Cur) :
    (s.finishTransaction c).rxCs = none := rfl
@[simp] theorem State.finishTransaction_acc (s : State) (c : Cur) :
    (s.finishTransaction c).acc = none := rfl
@[simp] theorem State.finishTransaction_inputs (s : State) (c : Cur) :
    (s.finishTransaction c).inputs = s.inputs := rfl
@[simp] theorem State.finishTransaction_built (s : State) (c : Cur) :
    (s.finishTransaction c).built = s.built := rfl
@[simp] theorem State.finishTransaction_trace (s : State) (c : Cur) :
    (s.finishTransaction c).trace = s.trace := rfl

/-! ### raise: an error that arises on the bus (R204) -/

@[simp] theorem State.raise_params (s : State) (c : Cur) (st : Status) (info : BusErr) :
    (s.raise c st info).params = s.params := rfl
@[simp] theorem State.raise_straps (s : State) (c : Cur) (st : Status) (info : BusErr) :
    (s.raise c st info).straps = s.straps := rfl
@[simp] theorem State.raise_cfg (s : State) (c : Cur) (st : Status) (info : BusErr) :
    (s.raise c st info).cfg = s.cfg := rfl
@[simp] theorem State.raise_sched (s : State) (c : Cur) (st : Status) (info : BusErr) :
    (s.raise c st info).sched = .waiting := rfl
@[simp] theorem State.raise_queue (s : State) (c : Cur) (st : Status) (info : BusErr) :
    (s.raise c st info).queue = s.queue := rfl
@[simp] theorem State.raise_cur (s : State) (c : Cur) (st : Status) (info : BusErr) :
    (s.raise c st info).cur = none := rfl
@[simp] theorem State.raise_waitLeft (s : State) (c : Cur) (st : Status) (info : BusErr) :
    (s.raise c st info).waitLeft = s.cfg.delayAfter c.dir := rfl
@[simp] theorem State.raise_lastDir (s : State) (c : Cur) (st : Status) (info : BusErr) :
    (s.raise c st info).lastDir = some c.dir := rfl
@[simp] theorem State.raise_toLeft (s : State) (c : Cur) (st : Status) (info : BusErr) :
    (s.raise c st info).toLeft = 0 := rfl
@[simp] theorem State.raise_rxAck (s : State) (c : Cur) (st : Status) (info : BusErr) :
    (s.raise c st info).rxAck = none := rfl
@[simp] theorem State.raise_rxLen (s : State) (c : Cur) (st : Status) (info : BusErr) :
    (s.raise c st info).rxLen = none := rfl
@[simp] theorem State.raise_dataLength (s : State) (c : Cur) (st : Status) (info : BusErr) :
    (s.raise c st info).dataLength = none := rfl
@[simp] theorem State.raise_rxData (s : State) (c : Cur) (st : Status) (info : BusErr) :
    (s.raise c st info).rxData = none := rfl
@[simp] theorem State.raise_rxCs (s : State) (c : Cur) (st : Status) (info : BusErr) :
    (s.raise c st info).rxCs = none := rfl
@[simp] theorem State.raise_acc (s : State) (c : Cur) (st : Status) (info : BusErr) :
    (s.raise c st info).acc = none := rfl
@[simp] theorem State.raise_inputs (s : State) (c : Cur) (st : Status) (info : BusErr) :
    (s.raise c st info).inputs = s.inputs := rfl
@[simp] theorem State.raise_built (s : State) (c : Cur) (st : Status) (info : BusErr) :
    (s.raise c st info).built = s.built := rfl
@[simp] theorem State.raise_trace (s : State) (c : Cur) (st : Status) (info : BusErr) :
    (s.raise c st info).trace = s.trace ++ [.completed (.failed c.entry.tag st info)] := rfl

/-! ### raiseCancelled: cancellation of a queued operation -/

@[simp] theorem State.raiseCancelled_params (s : State) (tag : Tag) :
    (s.raiseCancelled tag).params = s.params := rfl
@[simp] theorem State.raiseCancelled_straps (s : State) (tag : Tag) :
    (s.raiseCancelled tag).straps = s.straps := rfl
@[simp] theorem State.raiseCancelled_cfg (s : State) (tag : Tag) :
    (s.raiseCancelled tag).cfg = s.cfg := rfl
@[simp] theorem State.raiseCancelled_sched (s : State) (tag : Tag) :
    (s.raiseCancelled tag).sched = s.sched := rfl
@[simp] theorem State.raiseCancelled_queue (s : State) (tag : Tag) :
    (s.raiseCancelled tag).queue = s.queue := rfl
@[simp] theorem State.raiseCancelled_cur (s : State) (tag : Tag) :
    (s.raiseCancelled tag).cur = s.cur := rfl
@[simp] theorem State.raiseCancelled_waitLeft (s : State) (tag : Tag) :
    (s.raiseCancelled tag).waitLeft = s.waitLeft := rfl
@[simp] theorem State.raiseCancelled_lastDir (s : State) (tag : Tag) :
    (s.raiseCancelled tag).lastDir = s.lastDir := rfl
@[simp] theorem State.raiseCancelled_toLeft (s : State) (tag : Tag) :
    (s.raiseCancelled tag).toLeft = s.toLeft := rfl
@[simp] theorem State.raiseCancelled_rxAck (s : State) (tag : Tag) :
    (s.raiseCancelled tag).rxAck = s.rxAck := rfl
@[simp] theorem State.raiseCancelled_rxLen (s : State) (tag : Tag) :
    (s.raiseCancelled tag).rxLen = s.rxLen := rfl
@[simp] theorem State.raiseCancelled_dataLength (s : State) (tag : Tag) :
    (s.raiseCancelled tag).dataLength = s.dataLength := rfl
@[simp] theorem State.raiseCancelled_rxData (s : State) (tag : Tag) :
    (s.raiseCancelled tag).rxData = s.rxData := rfl
@[simp] theorem State.raiseCancelled_rxCs (s : State) (tag : Tag) :
    (s.raiseCancelled tag).rxCs = s.rxCs := rfl
@[simp] theorem State.raiseCancelled_acc (s : State) (tag : Tag) :
    (s.raiseCancelled tag).acc = s.acc := rfl
@[simp] theorem State.raiseCancelled_inputs (s : State) (tag : Tag) :
    (s.raiseCancelled tag).inputs = s.inputs := rfl
@[simp] theorem State.raiseCancelled_built (s : State) (tag : Tag) :
    (s.raiseCancelled tag).built = s.built := rfl
@[simp] theorem State.raiseCancelled_trace (s : State) (tag : Tag) :
    (s.raiseCancelled tag).trace = s.trace ++ [.completed (.plain tag .cancelled)] := rfl

/-! ### raiseTimeout: the timeout (R176) -/

@[simp] theorem State.raiseTimeout_params (s : State) (c : Cur) :
    (s.raiseTimeout c).params = s.params := rfl
@[simp] theorem State.raiseTimeout_straps (s : State) (c : Cur) :
    (s.raiseTimeout c).straps = s.straps := rfl
@[simp] theorem State.raiseTimeout_cfg (s : State) (c : Cur) :
    (s.raiseTimeout c).cfg = s.cfg := rfl
@[simp] theorem State.raiseTimeout_sched (s : State) (c : Cur) :
    (s.raiseTimeout c).sched = s.sched := rfl
@[simp] theorem State.raiseTimeout_queue (s : State) (c : Cur) :
    (s.raiseTimeout c).queue = s.queue := rfl
@[simp] theorem State.raiseTimeout_cur (s : State) (c : Cur) :
    (s.raiseTimeout c).cur = some { c with phase := .phDrain } := rfl
@[simp] theorem State.raiseTimeout_waitLeft (s : State) (c : Cur) :
    (s.raiseTimeout c).waitLeft = s.waitLeft := rfl
@[simp] theorem State.raiseTimeout_lastDir (s : State) (c : Cur) :
    (s.raiseTimeout c).lastDir = s.lastDir := rfl
@[simp] theorem State.raiseTimeout_toLeft (s : State) (c : Cur) :
    (s.raiseTimeout c).toLeft = s.toLeft := rfl
@[simp] theorem State.raiseTimeout_rxAck (s : State) (c : Cur) :
    (s.raiseTimeout c).rxAck = s.rxAck := rfl
@[simp] theorem State.raiseTimeout_rxLen (s : State) (c : Cur) :
    (s.raiseTimeout c).rxLen = s.rxLen := rfl
@[simp] theorem State.raiseTimeout_dataLength (s : State) (c : Cur) :
    (s.raiseTimeout c).dataLength = s.dataLength := rfl
@[simp] theorem State.raiseTimeout_rxData (s : State) (c : Cur) :
    (s.raiseTimeout c).rxData = s.rxData := rfl
@[simp] theorem State.raiseTimeout_rxCs (s : State) (c : Cur) :
    (s.raiseTimeout c).rxCs = s.rxCs := rfl
@[simp] theorem State.raiseTimeout_acc (s : State) (c : Cur) :
    (s.raiseTimeout c).acc = s.acc := rfl
@[simp] theorem State.raiseTimeout_inputs (s : State) (c : Cur) :
    (s.raiseTimeout c).inputs = s.inputs := rfl
@[simp] theorem State.raiseTimeout_built (s : State) (c : Cur) :
    (s.raiseTimeout c).built = s.built := rfl
@[simp] theorem State.raiseTimeout_trace (s : State) (c : Cur) :
    (s.raiseTimeout c).trace = s.trace ++ [.completed (.plain c.entry.tag .timeout)] := rfl

/-! ### succeed: a successful READ (R173) -/

@[simp] theorem State.succeed_params (s : State) (c : Cur) (r : ReadResult) :
    (s.succeed c r).params = s.params := rfl
@[simp] theorem State.succeed_straps (s : State) (c : Cur) (r : ReadResult) :
    (s.succeed c r).straps = s.straps := rfl
@[simp] theorem State.succeed_cfg (s : State) (c : Cur) (r : ReadResult) :
    (s.succeed c r).cfg = s.cfg := rfl
@[simp] theorem State.succeed_sched (s : State) (c : Cur) (r : ReadResult) :
    (s.succeed c r).sched = .waiting := rfl
@[simp] theorem State.succeed_queue (s : State) (c : Cur) (r : ReadResult) :
    (s.succeed c r).queue = s.queue := rfl
@[simp] theorem State.succeed_cur (s : State) (c : Cur) (r : ReadResult) :
    (s.succeed c r).cur = none := rfl
@[simp] theorem State.succeed_waitLeft (s : State) (c : Cur) (r : ReadResult) :
    (s.succeed c r).waitLeft = s.cfg.delayAfter c.dir := rfl
@[simp] theorem State.succeed_lastDir (s : State) (c : Cur) (r : ReadResult) :
    (s.succeed c r).lastDir = some c.dir := rfl
@[simp] theorem State.succeed_toLeft (s : State) (c : Cur) (r : ReadResult) :
    (s.succeed c r).toLeft = 0 := rfl
@[simp] theorem State.succeed_rxAck (s : State) (c : Cur) (r : ReadResult) :
    (s.succeed c r).rxAck = none := rfl
@[simp] theorem State.succeed_rxLen (s : State) (c : Cur) (r : ReadResult) :
    (s.succeed c r).rxLen = none := rfl
@[simp] theorem State.succeed_dataLength (s : State) (c : Cur) (r : ReadResult) :
    (s.succeed c r).dataLength = none := rfl
@[simp] theorem State.succeed_rxData (s : State) (c : Cur) (r : ReadResult) :
    (s.succeed c r).rxData = none := rfl
@[simp] theorem State.succeed_rxCs (s : State) (c : Cur) (r : ReadResult) :
    (s.succeed c r).rxCs = none := rfl
@[simp] theorem State.succeed_acc (s : State) (c : Cur) (r : ReadResult) :
    (s.succeed c r).acc = none := rfl
@[simp] theorem State.succeed_inputs (s : State) (c : Cur) (r : ReadResult) :
    (s.succeed c r).inputs = s.inputs := rfl
@[simp] theorem State.succeed_built (s : State) (c : Cur) (r : ReadResult) :
    (s.succeed c r).built = s.built := rfl
@[simp] theorem State.succeed_trace (s : State) (c : Cur) (r : ReadResult) :
    (s.succeed c r).trace = s.trace ++ [.completed (.readOk c.entry.tag r)] := rfl

/-! ### nextRead: the next read of a follow-up -/

@[simp] theorem State.nextRead_params (s : State) (c : Cur) (ph : Phase) (n : Nat) :
    (s.nextRead c ph n).params = s.params := rfl
@[simp] theorem State.nextRead_straps (s : State) (c : Cur) (ph : Phase) (n : Nat) :
    (s.nextRead c ph n).straps = s.straps := rfl
@[simp] theorem State.nextRead_cfg (s : State) (c : Cur) (ph : Phase) (n : Nat) :
    (s.nextRead c ph n).cfg = s.cfg := rfl
@[simp] theorem State.nextRead_sched (s : State) (c : Cur) (ph : Phase) (n : Nat) :
    (s.nextRead c ph n).sched = s.sched := rfl
@[simp] theorem State.nextRead_queue (s : State) (c : Cur) (ph : Phase) (n : Nat) :
    (s.nextRead c ph n).queue = s.queue := rfl
@[simp] theorem State.nextRead_cur (s : State) (c : Cur) (ph : Phase) (n : Nat) :
    (s.nextRead c ph n).cur = some { c with phase := ph } := rfl
@[simp] theorem State.nextRead_waitLeft (s : State) (c : Cur) (ph : Phase) (n : Nat) :
    (s.nextRead c ph n).waitLeft = s.waitLeft := rfl
@[simp] theorem State.nextRead_lastDir (s : State) (c : Cur) (ph : Phase) (n : Nat) :
    (s.nextRead c ph n).lastDir = s.lastDir := rfl
@[simp] theorem State.nextRead_toLeft (s : State) (c : Cur) (ph : Phase) (n : Nat) :
    (s.nextRead c ph n).toLeft = s.toLeft := rfl
@[simp] theorem State.nextRead_rxAck (s : State) (c : Cur) (ph : Phase) (n : Nat) :
    (s.nextRead c ph n).rxAck = s.rxAck := rfl
@[simp] theorem State.nextRead_rxLen (s : State) (c : Cur) (ph : Phase) (n : Nat) :
    (s.nextRead c ph n).rxLen = s.rxLen := rfl
@[simp] theorem State.nextRead_dataLength (s : State) (c : Cur) (ph : Phase) (n : Nat) :
    (s.nextRead c ph n).dataLength = s.dataLength := rfl
@[simp] theorem State.nextRead_rxData (s : State) (c : Cur) (ph : Phase) (n : Nat) :
    (s.nextRead c ph n).rxData = s.rxData := rfl
@[simp] theorem State.nextRead_rxCs (s : State) (c : Cur) (ph : Phase) (n : Nat) :
    (s.nextRead c ph n).rxCs = s.rxCs := rfl
@[simp] theorem State.nextRead_acc (s : State) (c : Cur) (ph : Phase) (n : Nat) :
    (s.nextRead c ph n).acc = s.acc := rfl
@[simp] theorem State.nextRead_inputs (s : State) (c : Cur) (ph : Phase) (n : Nat) :
    (s.nextRead c ph n).inputs = s.inputs := rfl
@[simp] theorem State.nextRead_built (s : State) (c : Cur) (ph : Phase) (n : Nat) :
    (s.nextRead c ph n).built = s.built := rfl
@[simp] theorem State.nextRead_trace (s : State) (c : Cur) (ph : Phase) (n : Nat) :
    (s.nextRead c ph n).trace = s.trace ++ [.request s.cfg.addr (.busRead n)] := rfl

/-! ### loadTail: load the tail registers (R116) -/

@[simp] theorem State.loadTail_params (s : State) (n : Nat) (tl : List Byte) :
    (s.loadTail n tl).params = s.params := rfl
@[simp] theorem State.loadTail_straps (s : State) (n : Nat) (tl : List Byte) :
    (s.loadTail n tl).straps = s.straps := rfl
@[simp] theorem State.loadTail_cfg (s : State) (n : Nat) (tl : List Byte) :
    (s.loadTail n tl).cfg = s.cfg := rfl
@[simp] theorem State.loadTail_sched (s : State) (n : Nat) (tl : List Byte) :
    (s.loadTail n tl).sched = s.sched := rfl
@[simp] theorem State.loadTail_queue (s : State) (n : Nat) (tl : List Byte) :
    (s.loadTail n tl).queue = s.queue := rfl
@[simp] theorem State.loadTail_cur (s : State) (n : Nat) (tl : List Byte) :
    (s.loadTail n tl).cur = s.cur := rfl
@[simp] theorem State.loadTail_waitLeft (s : State) (n : Nat) (tl : List Byte) :
    (s.loadTail n tl).waitLeft = s.waitLeft := rfl
@[simp] theorem State.loadTail_lastDir (s : State) (n : Nat) (tl : List Byte) :
    (s.loadTail n tl).lastDir = s.lastDir := rfl
@[simp] theorem State.loadTail_toLeft (s : State) (n : Nat) (tl : List Byte) :
    (s.loadTail n tl).toLeft = s.toLeft := rfl
@[simp] theorem State.loadTail_rxAck (s : State) (n : Nat) (tl : List Byte) :
    (s.loadTail n tl).rxAck = s.rxAck := rfl
@[simp] theorem State.loadTail_rxLen (s : State) (n : Nat) (tl : List Byte) :
    (s.loadTail n tl).rxLen = s.rxLen := rfl
@[simp] theorem State.loadTail_dataLength (s : State) (n : Nat) (tl : List Byte) :
    (s.loadTail n tl).dataLength = s.dataLength := rfl
@[simp] theorem State.loadTail_rxData (s : State) (n : Nat) (tl : List Byte) :
    (s.loadTail n tl).rxData = some (tl.take n) := rfl
@[simp] theorem State.loadTail_rxCs (s : State) (n : Nat) (tl : List Byte) :
    (s.loadTail n tl).rxCs = some (tl.getD n 0) := rfl
@[simp] theorem State.loadTail_acc (s : State) (n : Nat) (tl : List Byte) :
    (s.loadTail n tl).acc = some (replyChecksum s.cfg.addr n (tl.take n)) := rfl
@[simp] theorem State.loadTail_inputs (s : State) (n : Nat) (tl : List Byte) :
    (s.loadTail n tl).inputs = s.inputs := rfl
@[simp] theorem State.loadTail_built (s : State) (n : Nat) (tl : List Byte) :
    (s.loadTail n tl).built = s.built := rfl
@[simp] theorem State.loadTail_trace (s : State) (n : Nat) (tl : List Byte) :
    (s.loadTail n tl).trace = s.trace := rfl

/-! ### withFetchWord: present a table word -/

@[simp] theorem State.withFetchWord_params (s : State) (nbits w : Nat) :
    (s.withFetchWord nbits w).params = s.params := rfl
@[simp] theorem State.withFetchWord_straps (s : State) (nbits w : Nat) :
    (s.withFetchWord nbits w).straps = s.straps := rfl
@[simp] theorem State.withFetchWord_cfg (s : State) (nbits w : Nat) :
    (s.withFetchWord nbits w).cfg = s.cfg := rfl
@[simp] theorem State.withFetchWord_sched (s : State) (nbits w : Nat) :
    (s.withFetchWord nbits w).sched = s.sched := rfl
@[simp] theorem State.withFetchWord_queue (s : State) (nbits w : Nat) :
    (s.withFetchWord nbits w).queue = s.queue := rfl
@[simp] theorem State.withFetchWord_cur (s : State) (nbits w : Nat) :
    (s.withFetchWord nbits w).cur = s.cur := rfl
@[simp] theorem State.withFetchWord_waitLeft (s : State) (nbits w : Nat) :
    (s.withFetchWord nbits w).waitLeft = s.waitLeft := rfl
@[simp] theorem State.withFetchWord_lastDir (s : State) (nbits w : Nat) :
    (s.withFetchWord nbits w).lastDir = s.lastDir := rfl
@[simp] theorem State.withFetchWord_toLeft (s : State) (nbits w : Nat) :
    (s.withFetchWord nbits w).toLeft = s.toLeft := rfl
@[simp] theorem State.withFetchWord_rxAck (s : State) (nbits w : Nat) :
    (s.withFetchWord nbits w).rxAck = s.rxAck := rfl
@[simp] theorem State.withFetchWord_rxLen (s : State) (nbits w : Nat) :
    (s.withFetchWord nbits w).rxLen = s.rxLen := rfl
@[simp] theorem State.withFetchWord_dataLength (s : State) (nbits w : Nat) :
    (s.withFetchWord nbits w).dataLength = s.dataLength := rfl
@[simp] theorem State.withFetchWord_rxData (s : State) (nbits w : Nat) :
    (s.withFetchWord nbits w).rxData = s.rxData := rfl
@[simp] theorem State.withFetchWord_rxCs (s : State) (nbits w : Nat) :
    (s.withFetchWord nbits w).rxCs = s.rxCs := rfl
@[simp] theorem State.withFetchWord_acc (s : State) (nbits w : Nat) :
    (s.withFetchWord nbits w).acc = s.acc := rfl
@[simp] theorem State.withFetchWord_inputs (s : State) (nbits w : Nat) :
    (s.withFetchWord nbits w).inputs = .word (tableWord s.params.tagW nbits w) :: s.inputs := rfl
@[simp] theorem State.withFetchWord_built (s : State) (nbits w : Nat) :
    (s.withFetchWord nbits w).built = s.built := rfl
@[simp] theorem State.withFetchWord_trace (s : State) (nbits w : Nat) :
    (s.withFetchWord nbits w).trace = s.trace := rfl

/-! ### dispatch (R136, R169) -/

@[simp] theorem State.dispatch_params (s : State) (e : Entry) :
    (s.dispatch e).params = s.params := by
  unfold State.dispatch; cases e.kind <;> rfl
@[simp] theorem State.dispatch_straps (s : State) (e : Entry) :
    (s.dispatch e).straps = s.straps := by
  unfold State.dispatch; cases e.kind <;> rfl
@[simp] theorem State.dispatch_cfg (s : State) (e : Entry) :
    (s.dispatch e).cfg = s.cfg := by
  unfold State.dispatch; cases e.kind <;> rfl
@[simp] theorem State.dispatch_sched (s : State) (e : Entry) :
    (s.dispatch e).sched = .dispatching := by
  unfold State.dispatch; cases e.kind <;> rfl
@[simp] theorem State.dispatch_queue (s : State) (e : Entry) :
    (s.dispatch e).queue = s.queue := by
  unfold State.dispatch; cases e.kind <;> rfl
@[simp] theorem State.dispatch_waitLeft (s : State) (e : Entry) :
    (s.dispatch e).waitLeft = s.waitLeft := by
  unfold State.dispatch; cases e.kind <;> rfl
@[simp] theorem State.dispatch_lastDir (s : State) (e : Entry) :
    (s.dispatch e).lastDir = none := by
  unfold State.dispatch; cases e.kind <;> rfl
@[simp] theorem State.dispatch_rxAck (s : State) (e : Entry) :
    (s.dispatch e).rxAck = s.rxAck := by
  unfold State.dispatch; cases e.kind <;> rfl
@[simp] theorem State.dispatch_rxLen (s : State) (e : Entry) :
    (s.dispatch e).rxLen = s.rxLen := by
  unfold State.dispatch; cases e.kind <;> rfl
@[simp] theorem State.dispatch_dataLength (s : State) (e : Entry) :
    (s.dispatch e).dataLength = s.dataLength := by
  unfold State.dispatch; cases e.kind <;> rfl
@[simp] theorem State.dispatch_rxData (s : State) (e : Entry) :
    (s.dispatch e).rxData = s.rxData := by
  unfold State.dispatch; cases e.kind <;> rfl
@[simp] theorem State.dispatch_rxCs (s : State) (e : Entry) :
    (s.dispatch e).rxCs = s.rxCs := by
  unfold State.dispatch; cases e.kind <;> rfl
@[simp] theorem State.dispatch_acc (s : State) (e : Entry) :
    (s.dispatch e).acc = s.acc := by
  unfold State.dispatch; cases e.kind <;> rfl
@[simp] theorem State.dispatch_inputs (s : State) (e : Entry) :
    (s.dispatch e).inputs = s.inputs := by
  unfold State.dispatch; cases e.kind <;> rfl
@[simp] theorem State.dispatch_built (s : State) (e : Entry) :
    (s.dispatch e).built = s.built := by
  unfold State.dispatch; cases e.kind <;> rfl

/-! ### dispatchHead and settle: the fields no internal transition touches -/

@[simp] theorem State.dispatchHead_params (s : State) : s.dispatchHead.params = s.params := by
  unfold State.dispatchHead; cases s.queue <;> simp
@[simp] theorem State.dispatchHead_straps (s : State) : s.dispatchHead.straps = s.straps := by
  unfold State.dispatchHead; cases s.queue <;> simp
@[simp] theorem State.dispatchHead_cfg (s : State) : s.dispatchHead.cfg = s.cfg := by
  unfold State.dispatchHead; cases s.queue <;> simp
@[simp] theorem State.dispatchHead_waitLeft (s : State) : s.dispatchHead.waitLeft = s.waitLeft := by
  unfold State.dispatchHead; cases s.queue <;> simp
@[simp] theorem State.dispatchHead_rxAck (s : State) : s.dispatchHead.rxAck = s.rxAck := by
  unfold State.dispatchHead; cases s.queue <;> simp
@[simp] theorem State.dispatchHead_rxLen (s : State) : s.dispatchHead.rxLen = s.rxLen := by
  unfold State.dispatchHead; cases s.queue <;> simp
@[simp] theorem State.dispatchHead_dataLength (s : State) : s.dispatchHead.dataLength = s.dataLength := by
  unfold State.dispatchHead; cases s.queue <;> simp
@[simp] theorem State.dispatchHead_rxData (s : State) : s.dispatchHead.rxData = s.rxData := by
  unfold State.dispatchHead; cases s.queue <;> simp
@[simp] theorem State.dispatchHead_rxCs (s : State) : s.dispatchHead.rxCs = s.rxCs := by
  unfold State.dispatchHead; cases s.queue <;> simp
@[simp] theorem State.dispatchHead_acc (s : State) : s.dispatchHead.acc = s.acc := by
  unfold State.dispatchHead; cases s.queue <;> simp
@[simp] theorem State.dispatchHead_inputs (s : State) : s.dispatchHead.inputs = s.inputs := by
  unfold State.dispatchHead; cases s.queue <;> simp
@[simp] theorem State.dispatchHead_built (s : State) : s.dispatchHead.built = s.built := by
  unfold State.dispatchHead; cases s.queue <;> simp
@[simp] theorem State.settle_params (s : State) : s.settle.params = s.params := by
  unfold State.settle; split <;> (try split) <;> (try split) <;> simp
@[simp] theorem State.settle_straps (s : State) : s.settle.straps = s.straps := by
  unfold State.settle; split <;> (try split) <;> (try split) <;> simp
@[simp] theorem State.settle_cfg (s : State) : s.settle.cfg = s.cfg := by
  unfold State.settle; split <;> (try split) <;> (try split) <;> simp
@[simp] theorem State.settle_waitLeft (s : State) : s.settle.waitLeft = s.waitLeft := by
  unfold State.settle; split <;> (try split) <;> (try split) <;> simp
@[simp] theorem State.settle_rxAck (s : State) : s.settle.rxAck = s.rxAck := by
  unfold State.settle; split <;> (try split) <;> (try split) <;> simp
@[simp] theorem State.settle_rxLen (s : State) : s.settle.rxLen = s.rxLen := by
  unfold State.settle; split <;> (try split) <;> (try split) <;> simp
@[simp] theorem State.settle_dataLength (s : State) : s.settle.dataLength = s.dataLength := by
  unfold State.settle; split <;> (try split) <;> (try split) <;> simp
@[simp] theorem State.settle_rxData (s : State) : s.settle.rxData = s.rxData := by
  unfold State.settle; split <;> (try split) <;> (try split) <;> simp
@[simp] theorem State.settle_rxCs (s : State) : s.settle.rxCs = s.rxCs := by
  unfold State.settle; split <;> (try split) <;> (try split) <;> simp
@[simp] theorem State.settle_acc (s : State) : s.settle.acc = s.acc := by
  unfold State.settle; split <;> (try split) <;> (try split) <;> simp
@[simp] theorem State.settle_inputs (s : State) : s.settle.inputs = s.inputs := by
  unfold State.settle; split <;> (try split) <;> (try split) <;> simp
@[simp] theorem State.settle_built (s : State) : s.settle.built = s.built := by
  unfold State.settle; split <;> (try split) <;> (try split) <;> simp

/-! ### cancelAll (R146) -/

theorem State.foldl_raiseCancelled (q : List Entry) (s : State) :
    q.foldl (fun t e => t.raiseCancelled e.tag) s =
      { s with trace := s.trace ++ q.map (fun e => .completed (.plain e.tag .cancelled)) } := by
  induction q generalizing s with
  | nil => simp
  | cons e q ih => rw [List.foldl_cons, ih]; simp [State.raiseCancelled, State.complete, State.emit]

theorem State.cancelAll_eq (s : State) :
    s.cancelAll =
      { s with
        queue := []
        trace := s.trace ++ s.queue.map (fun e => .completed (.plain e.tag .cancelled)) } := by
  rw [State.cancelAll, State.foldl_raiseCancelled]

@[simp] theorem State.cancelAll_params (s : State) :
    s.cancelAll.params = s.params := by
  rw [State.cancelAll_eq]
@[simp] theorem State.cancelAll_straps (s : State) :
    s.cancelAll.straps = s.straps := by
  rw [State.cancelAll_eq]
@[simp] theorem State.cancelAll_cfg (s : State) :
    s.cancelAll.cfg = s.cfg := by
  rw [State.cancelAll_eq]
@[simp] theorem State.cancelAll_sched (s : State) :
    s.cancelAll.sched = s.sched := by
  rw [State.cancelAll_eq]
@[simp] theorem State.cancelAll_queue (s : State) :
    s.cancelAll.queue = [] := by
  rw [State.cancelAll_eq]
@[simp] theorem State.cancelAll_cur (s : State) :
    s.cancelAll.cur = s.cur := by
  rw [State.cancelAll_eq]
@[simp] theorem State.cancelAll_waitLeft (s : State) :
    s.cancelAll.waitLeft = s.waitLeft := by
  rw [State.cancelAll_eq]
@[simp] theorem State.cancelAll_lastDir (s : State) :
    s.cancelAll.lastDir = s.lastDir := by
  rw [State.cancelAll_eq]
@[simp] theorem State.cancelAll_toLeft (s : State) :
    s.cancelAll.toLeft = s.toLeft := by
  rw [State.cancelAll_eq]
@[simp] theorem State.cancelAll_rxAck (s : State) :
    s.cancelAll.rxAck = s.rxAck := by
  rw [State.cancelAll_eq]
@[simp] theorem State.cancelAll_rxLen (s : State) :
    s.cancelAll.rxLen = s.rxLen := by
  rw [State.cancelAll_eq]
@[simp] theorem State.cancelAll_dataLength (s : State) :
    s.cancelAll.dataLength = s.dataLength := by
  rw [State.cancelAll_eq]
@[simp] theorem State.cancelAll_rxData (s : State) :
    s.cancelAll.rxData = s.rxData := by
  rw [State.cancelAll_eq]
@[simp] theorem State.cancelAll_rxCs (s : State) :
    s.cancelAll.rxCs = s.rxCs := by
  rw [State.cancelAll_eq]
@[simp] theorem State.cancelAll_acc (s : State) :
    s.cancelAll.acc = s.acc := by
  rw [State.cancelAll_eq]
@[simp] theorem State.cancelAll_inputs (s : State) :
    s.cancelAll.inputs = s.inputs := by
  rw [State.cancelAll_eq]
@[simp] theorem State.cancelAll_built (s : State) :
    s.cancelAll.built = s.built := by
  rw [State.cancelAll_eq]
@[simp] theorem State.cancelAll_trace (s : State) :
    s.cancelAll.trace = s.trace ++ s.queue.map (fun e => .completed (.plain e.tag .cancelled)) := by
  rw [State.cancelAll_eq]

end Sys2Proof.Machine
end

