-- ==== Sys2Proof/Laws/Ops.lean ====
section
/-!
SUPPORT. What each shared operation can do, said once: later proofs cite these and do not unfold the operation.
-/

namespace Sys2Proof.Machine

open Host (Outcome)

/-! ### Dispatch and the internal transitions -/

theorem State.dispatch_of_write (s : State) (e : Entry) (h : e.kind ≠ .txRdfollow) :
    s.dispatch e =
      { s with
        cur := some { entry := e, phase := .phWr }
        sched := .dispatching
        lastDir := none
        trace := s.trace ++ [.request s.cfg.addr (.busWrite e.frame)] } := by
  unfold State.dispatch
  cases hk : e.kind <;> first | rfl | exact absurd hk h

theorem State.dispatch_of_follow (s : State) (e : Entry) (h : e.kind = .txRdfollow) :
    s.dispatch e =
      { s with
        cur := some { entry := e, phase := .phAck }
        sched := .dispatching
        lastDir := none
        toLeft := s.cfg.readTimeout
        trace := s.trace ++ [.request s.cfg.addr (.busRead 1)] } := by
  unfold State.dispatch
  rw [h]
  rfl

/-- A dispatch puts the entry on the bus and emits exactly one request. -/
theorem State.dispatch_spec (s : State) (e : Entry) :
    ∃ ph r, (s.dispatch e).cur = some { entry := e, phase := ph } ∧
      (s.dispatch e).trace = s.trace ++ [.request s.cfg.addr r] := by
  by_cases h : e.kind = .txRdfollow
  · exact ⟨.phAck, .busRead 1, by rw [State.dispatch_of_follow s e h], by rw [State.dispatch_of_follow s e h]⟩
  · exact ⟨.phWr, .busWrite e.frame, by rw [State.dispatch_of_write s e h],
      by rw [State.dispatch_of_write s e h]⟩

theorem State.dispatchHead_nil (s : State) (h : s.queue = []) : s.dispatchHead = s := by
  simp [State.dispatchHead, h]

theorem State.dispatchHead_cons (s : State) (e : Entry) (q : List Entry) (h : s.queue = e :: q) :
    s.dispatchHead = ({ s with queue := q }).dispatch e := by
  simp [State.dispatchHead, h]

/-- The internal transitions do one of three things: nothing, where none is enabled; the expiry to `Idle`; or the
dispatch of the head of the queue. -/
theorem State.settle_cases (s : State) :
    (s.Quiescent ∧ s.settle = s) ∨
    (s.sched = .waiting ∧ s.waitLeft = 0 ∧ s.queue = [] ∧ s.settle = s.expireToIdle) ∨
    (∃ e q, s.atDispatchPoint = true ∧ s.queue = e :: q ∧ s.settle = ({ s with queue := q }).dispatch e) := by
  unfold State.settle State.Quiescent State.atDispatchPoint
  cases hs : s.sched with
  | dispatching => simp
  | idle =>
    cases hq : s.queue with
    | nil => simp [State.dispatchHead_nil s hq]
    | cons e q => simp [State.dispatchHead_cons s e q hq, hs]
  | waiting =>
    by_cases hw : s.waitLeft = 0
    · cases hq : s.queue with
      | nil => simp [hw]
      | cons e q => simp [hw, State.dispatchHead_cons s e q hq, hs]
    · simp [hw]; omega

theorem State.settle_quiescent (s : State) : s.settle.Quiescent := by
  obtain ⟨hq, h⟩ | ⟨-, -, hq, h⟩ | ⟨e, q, -, -, h⟩ := State.settle_cases s <;> rw [h]
  · exact hq
  · simp [State.Quiescent, hq]
  · simp [State.Quiescent]

theorem State.settle_of_quiescent (s : State) (h : s.Quiescent) : s.settle = s := by
  obtain ⟨-, hs⟩ | ⟨hw, h0, -, -⟩ | ⟨e, q, hp, hq, -⟩ := State.settle_cases s
  · exact hs
  · have := h.2 hw; omega
  · unfold State.atDispatchPoint at hp
    cases hs : s.sched with
    | idle => have := h.1 hs; simp [hq] at this
    | waiting => have := h.2 hs; simp [hs] at hp; omega
    | dispatching => simp [hs] at hp

/-! ### Acceptance, responses, ticks, reset -/

theorem State.accept_next {s t : State} {e : Entry} (h : s.accept e = .next t) :
    ∃ n, s.occupancy = some n ∧ n < s.params.queueDepth ∧
      t = ((s.emit (.accepted e.tag)).enqueue e).settle := by
  unfold State.accept at h
  split at h
  · cases h
  · rename_i n hn
    split at h
    · rename_i hlt
      exact ⟨n, hn, hlt, by simpa using h.symm⟩
    · cases h

/-- What a response does to the transaction in flight, before the internal transitions. -/
theorem State.answer_next {s t : State} {c : Cur} {r : BusRsp} (h : s.answer c r = .next t) :
    (c.phase = .phWr ∧ c.entry.kind = .txWrite ∧ ∃ a, r.writeAnswer = some a ∧ t = s.writeAnswered c a) ∨
    (c.phase = .phWr ∧ c.entry.kind = .txRdreq ∧ ∃ a, r.writeAnswer = some a ∧ t = s.requestAnswered c a) ∨
    (c.phase = .phAck ∧ ∃ a, r.readAnswer 1 = some a ∧ t = s.ackAnswered c a) ∨
    (c.phase = .phLen ∧ ∃ a, r.readAnswer 1 = some a ∧ t = s.lenAnswered c a) ∨
    (c.phase = .phTail ∧ ∃ d a, s.dataLength = some d ∧ r.readAnswer (d.toNat + 1) = some a ∧
      t = s.tailAnswered c d.toNat a) ∨
    (c.phase = .phDrain ∧ t = s.finishTransaction c) := by
  unfold State.answer at h
  split at h <;> rename_i hph
  · split at h
    · cases h
    · rename_i a ha
      split at h
      · rename_i hk; exact .inl ⟨hph, hk, a, ha, by simpa using h.symm⟩
      · rename_i hk; exact .inr (.inl ⟨hph, hk, a, ha, by simpa using h.symm⟩)
      · cases h
  · split at h
    · cases h
    · rename_i a ha; exact .inr (.inr (.inl ⟨hph, a, ha, by simpa using h.symm⟩))
  · split at h
    · cases h
    · rename_i a ha; exact .inr (.inr (.inr (.inl ⟨hph, a, ha, by simpa using h.symm⟩)))
  · split at h
    · cases h
    · rename_i d hd
      split at h
      · cases h
      · rename_i a ha
        exact .inr (.inr (.inr (.inr (.inl ⟨hph, d, a, hd, ha, by simpa using h.symm⟩))))
  · split at h
    · cases h
    · exact .inr (.inr (.inr (.inr (.inr ⟨hph, by simpa using h.symm⟩))))

theorem State.respond_next {s t : State} {r : BusRsp} (h : s.respond r = .next t) :
    s.sched = .dispatching ∧ ∃ c u, s.cur = some c ∧ r.inRange s.params = true ∧
      (s.emit .responded).answer c r = .next u ∧ t = u.settle := by
  unfold State.respond at h
  split at h
  · rename_i hs
    split at h
    · cases h
    · rename_i c hc
      split at h
      · rename_i hr
        split at h
        · rename_i u hu; exact ⟨hs, c, u, hc, hr, hu, by simpa using h.symm⟩
        · cases h
        · cases h
      · cases h
  · cases h

/-- A transaction that the internal transitions put on the bus awaits its first response. -/
theorem State.settle_first_phase (s : State) (hc : s.cur = none) {c : Cur} (h : s.settle.cur = some c) :
    c.phase = .phWr ∨ c.phase = .phAck := by
  obtain ⟨-, e⟩ | ⟨-, -, -, e⟩ | ⟨x, q, -, -, e⟩ := State.settle_cases s <;> rw [e] at h
  · rw [hc] at h; cases h
  · simp [hc] at h
  · by_cases hk : x.kind = .txRdfollow
    · rw [State.dispatch_of_follow _ _ hk] at h
      simp only [Option.some.injEq] at h
      simp [← h]
    · rw [State.dispatch_of_write _ _ hk] at h
      simp only [Option.some.injEq] at h
      simp [← h]

/-- A response after which a follow-up goes on to its next read leaves the queue alone and adds that read to the
observation. -/
theorem State.respond_reads_on {s t : State} {r : BusRsp} (h : s.respond r = .next t) (hr : s.readsOn t = true) :
    t.queue = s.queue ∧ t.sched = .dispatching ∧ ∃ c ph n, s.cur = some c ∧ t.cur = some { c with phase := ph } ∧
      t.trace = s.trace ++ [.responded, .request s.cfg.addr (.busRead n)] := by
  obtain ⟨hs, c, u, hc, -, hu, rfl⟩ := State.respond_next h
  have stops : u.cur = none → s.readsOn u.settle = false := by
    intro hn
    unfold State.readsOn
    rw [hc]
    cases hd : u.settle.cur with
    | none => rfl
    | some d => rcases State.settle_first_phase u hn hd with hp | hp <;> simp [hp]
  have on : ∀ (v : State) (ph : Phase) (n : Nat), v.queue = s.queue → v.cfg = s.cfg → v.sched = .dispatching →
      v.trace = s.trace ++ [.responded] → u = v.nextRead c ph n →
      u.settle.queue = s.queue ∧ u.settle.sched = .dispatching ∧ ∃ c ph n, s.cur = some c ∧
        u.settle.cur = some { c with phase := ph } ∧
        u.settle.trace = s.trace ++ [.responded, .request s.cfg.addr (.busRead n)] := by
    intro v ph n hq hg hv ht he
    rw [State.settle_of_quiescent u (by simp [State.Quiescent, he, hv])]
    exact ⟨by simp [he, hq], by simp [he, hv], c, ph, n, hc, by simp [he], by simp [he, ht, hg]⟩
  rcases State.answer_next hu with ⟨-, -, a, -, rfl⟩ | ⟨-, -, a, -, rfl⟩ | ⟨-, a, -, rfl⟩ | ⟨-, a, -, rfl⟩ |
    ⟨-, d, a, -, -, rfl⟩ | ⟨-, rfl⟩
  · rw [stops (by cases a <;> rfl)] at hr; cases hr
  · rw [stops (by cases a <;> rfl)] at hr; cases hr
  · rcases a with e | _ | ⟨x, l⟩
    · rw [stops rfl] at hr; cases hr
    · rw [stops rfl] at hr; cases hr
    · by_cases ha : ackAccepted s.cfg.addr x = true
      · exact on ({ s.emit .responded with rxAck := some x }) .phLen 1 (by simp) (by simp) (by simp [hs]) (by simp)
          (by simp [State.ackAnswered, ha])
      · rw [stops (by simp [State.ackAnswered, ha])] at hr; cases hr
  · rcases a with e | _ | ⟨x, l⟩
    · rw [stops rfl] at hr; cases hr
    · rw [stops rfl] at hr; cases hr
    · by_cases ha : lengthAccepted s.cfg.strictLengthFlag s.cfg.maxDataLen x = true
      · exact on ({ s.emit .responded with rxLen := some x, dataLength := some (dataLengthOf x) }) .phTail
          ((dataLengthOf x).toNat + 1) (by simp) (by simp) (by simp [hs]) (by simp)
          (by simp [State.lenAnswered, ha])
      · rw [stops (by simp [State.lenAnswered, ha])] at hr; cases hr
  · rw [stops] at hr
    · cases hr
    · rcases a with e | l
      · rfl
      · simp only [State.tailAnswered]
        split
        · rfl
        · split <;> rfl
  · rw [stops rfl] at hr; cases hr

theorem State.tick_next {s t : State} (h : s.tick = .next t) :
    (s.sched = .idle ∧ t = (s.emit .ticked).settle) ∨
    (s.sched = .waiting ∧ t = ({ s.emit .ticked with waitLeft := s.waitLeft - 1 } : State).settle) ∨
    (s.sched = .dispatching ∧ ∃ c, s.cur = some c ∧
      ((c.timed = true ∧ t = (s.emit .ticked).tickTimeout c) ∨ (c.timed = false ∧ t = s.emit .ticked))) := by
  unfold State.tick at h
  split at h <;> rename_i hs
  · exact .inl ⟨hs, by simpa using h.symm⟩
  · exact .inr (.inl ⟨hs, by simpa using h.symm⟩)
  · split at h
    · cases h
    · rename_i c hc
      refine .inr (.inr ⟨hs, c, hc, ?_⟩)
      split at h
      · rename_i ht; exact .inl ⟨ht, by simpa using h.symm⟩
      · rename_i ht; exact .inr ⟨by simpa using ht, by simpa using h.symm⟩

/-- A tick of the timeout timer either only counts it down, or ends the operation with `Timeout` and leaves its
transaction to be drained. -/
theorem State.tickTimeout_cases (s : State) (c : Cur) :
    (1 < s.toLeft ∧ s.tickTimeout c = { s with toLeft := s.toLeft - 1 }) ∨
    (s.toLeft ≤ 1 ∧
      s.tickTimeout c =
        { s with
          toLeft := 0
          cur := some { c with phase := .phDrain }
          trace := s.trace ++ [.completed (.plain c.entry.tag .timeout)] }) := by
  unfold State.tickTimeout
  by_cases h : s.toLeft - 1 = 0
  · right
    rw [if_pos h]
    refine ⟨by omega, ?_⟩
    rw [h]
    rfl
  · left
    rw [if_neg h]
    exact ⟨by omega, rfl⟩

theorem State.hardReset_next {s t : State} (h : s.hardReset = .next t) :
    s.straps.sample.Legal ∧
      t =
        { State.reset with
          params := s.params
          straps := s.straps
          cfg := s.straps.sample
          inputs := s.inputs
          trace := s.trace ++ [.hardReset] } := by
  unfold State.hardReset at h
  split at h
  · rename_i hl; exact ⟨hl, by simpa [State.reset] using h.symm⟩
  · cases h

/-- What every response keeps, an offered reply keeps: an offer is at most three responses. -/
theorem State.offer_keeps {P : State → Prop} (hP : ∀ s t r, P s → s.respond r = .next t → P t) :
    ∀ (k : Nat) (bs : List Byte) (s t : State), P s → State.offer k bs s = .next t → P t
  | 0, _, s, t, hs, h => by
    rw [State.offer, Outcome.next.injEq] at h
    exact h ▸ hs
  | k + 1, bs, s, t, hs, h => by
    rw [State.offer] at h
    split at h
    · exact hP _ _ _ hs h
    · split at h
      · rename_i u hu
        have hPu := hP _ _ _ hs hu
        split at h
        · exact State.offer_keeps hP k _ _ _ hPu h
        · rw [Outcome.next.injEq] at h
          exact h ▸ hPu
      · cases h
      · cases h

/-! ### Step -/

/-- Where no request is due and no expiry is enabled, a step is the reaction to the oldest event. -/
theorem step_of_quiescent {s : State} {e : Input} {rest : List Input} (hd : s.dueRequest = none)
    (hw : ¬ (s.sched = .waiting ∧ s.waitLeft = 0)) (hi : s.inputs = e :: rest) :
    step s = react e { s with inputs := rest } := by
  rw [step, hd]
  simp only
  rw [if_neg hw, hi]

/-- A step that answers a next state did one of four things. -/
theorem step_next {s t : State} (h : step s = .next t) :
    (∃ w, s.dueRequest = some w ∧ runWord w s = .next t) ∨
    (s.dueRequest = none ∧ s.sched = .waiting ∧ s.waitLeft = 0 ∧ t = s.expireToIdle) ∨
    (s.dueRequest = none ∧ s.inputs = [] ∧ t = s) ∨
    (s.dueRequest = none ∧ ∃ e rest, s.inputs = e :: rest ∧ react e { s with inputs := rest } = .next t) := by
  unfold step at h
  split at h
  · rename_i w hw; exact .inl ⟨w, hw, h⟩
  · rename_i hd
    split at h
    · rename_i hw; exact .inr (.inl ⟨hd, hw.1, hw.2, by simpa using h.symm⟩)
    · split at h
      · rename_i hi; exact .inr (.inr (.inl ⟨hd, hi, by simpa using h.symm⟩))
      · rename_i e rest hi; exact .inr (.inr (.inr ⟨hd, e, rest, hi, h⟩))

/-- A reaction that answers a next state is that of one of the five kinds of input. -/
theorem react_next {s t : State} {e : Input} (h : react e s = .next t) :
    (∃ w, e = .word w ∧ runWord w s = .next t) ∨
    (∃ r, e = .rsp r ∧ s.respond r = .next t) ∨
    (e = .tick ∧ s.tick = .next t) ∨
    (e = .hardReset ∧ s.hardReset = .next t) ∨
    (∃ c, e = .coincident c ∧ t = { s with inputs := c.inOrder ++ s.inputs }) := by
  cases e with
  | word w => exact .inl ⟨w, rfl, h⟩
  | rsp r => exact .inr (.inl ⟨r, rfl, h⟩)
  | tick => exact .inr (.inr (.inl ⟨rfl, h⟩))
  | hardReset => exact .inr (.inr (.inr (.inl ⟨rfl, h⟩)))
  | coincident c => exact .inr (.inr (.inr (.inr ⟨c, rfl, by simpa [react] using h.symm⟩)))

theorem runWord_next {s t : State} {w : PortWord} (h : runWord w s = .next t) :
    ∃ i, decode s.cfg.addr w = .ok i ∧ i.wf s.params = true ∧ exec i s = .next t := by
  unfold runWord at h
  split at h
  · cases h
  · rename_i i hi
    split at h
    · rename_i hw; exact ⟨i, hi, hw, h⟩
    · cases h

end Sys2Proof.Machine
end

