-- ==== Sys2Proof/Laws/PerInstr.lean ====
section
/-!
SUPPORT. What holds of each instruction as syntax: whatever the decoder answers is well formed, provided the tag the
command port carried has its `TAG_W` bits.
-/

namespace Sys2Proof.Laws

open Sys2Proof

/-- A port word carries no tag wider than the port (R30). -/
def TagFits (p : Config.Params) (w : PortWord) : Prop := ∀ c, w = .cmd c → c.tag < 2 ^ p.tagW

/-- What the decoder answers is well formed. -/
def DecodedWf.Statement (i : Instr) : Prop :=
  ∀ (p : Config.Params) (addr : BitVec 7) (w : PortWord), TagFits p w → decode addr w = .ok i → i.wf p = true

/-- A command word's tag is the tag of what it decodes to. -/
theorem decodeCmd_tag {p : Config.Params} {c : CmdWord} (h : c.tag < 2 ^ p.tagW) : (decodeCmd c).wf p = true := by
  unfold decodeCmd
  split
  · simpa [Instr.wf] using h
  split
  · simpa [Instr.wf] using h
  split
  · simpa [Instr.wf] using h
  · rfl

theorem decodeReply_wf {p : Config.Params} {bs : List Byte} {i : Instr} (h : decodeReply bs = .ok i) :
    i.wf p = true := by
  unfold decodeReply at h
  split at h
  · split at h
    · rename_i hl
      cases h
      simpa [Instr.wf] using hl
    · cases h
  · cases h

theorem decodeFrame_wf {p : Config.Params} {addr : BitVec 7} {bs : List Byte} {i : Instr}
    (h : decodeFrame addr bs = .ok i) : i.wf p = true := by
  unfold decodeFrame at h
  split at h
  · repeat (split at h; · cases h)
    cases h
    rfl
  · repeat (split at h; · cases h)
    cases h
    rfl
  · cases h

theorem decodeBusReq_wf {p : Config.Params} {kind : BitVec 1} {n : Nat} {data : List Byte} {i : Instr}
    (h : decodeBusReq kind n data = .ok i) : i.wf p = true := by
  unfold decodeBusReq at h
  split at h
  · split at h
    · cases h
    · split at h
      · cases h
      · cases h
        simp_all [Instr.wf]
        omega
  · split at h
    · cases h
    · split at h
      · cases h
      · cases h
        simp_all [Instr.wf]
        omega

/-- The decoder as a whole: each of the four encodings answers well-formed instructions. -/
theorem decode_wf (i : Instr) : DecodedWf.Statement i := by
  intro p addr w ht h
  cases w with
  | cmd c =>
    have hi : decodeCmd c = i := by simpa [decode] using h
    exact hi ▸ decodeCmd_tag (ht c rfl)
  | frame bs => exact decodeFrame_wf h
  | reply bs => exact decodeReply_wf h
  | busReq kind n data => exact decodeBusReq_wf h

theorem DecodedWf.write (tag : Tag) (control : Byte) (value : BitVec 32) :
    DecodedWf.Statement (.write tag control value) := decode_wf _

theorem DecodedWf.read (tag : Tag) (control : Byte) : DecodedWf.Statement (.read tag control) := decode_wf _

theorem DecodedWf.cancel (tag : Tag) : DecodedWf.Statement (.cancel tag) := decode_wf _

theorem DecodedWf.schedReset : DecodedWf.Statement .schedReset := decode_wf _

theorem DecodedWf.wrframe (control : Byte) (value : BitVec 16) : DecodedWf.Statement (.wrframe control value) :=
  decode_wf _

theorem DecodedWf.rdreq (control : Byte) : DecodedWf.Statement (.rdreq control) := decode_wf _

theorem DecodedWf.rdreply (ack len : Byte) (tail : List Byte) : DecodedWf.Statement (.rdreply ack len tail) :=
  decode_wf _

theorem DecodedWf.busWrite (data : List Byte) : DecodedWf.Statement (.busWrite data) := decode_wf _

theorem DecodedWf.busRead (n : Nat) : DecodedWf.Statement (.busRead n) := decode_wf _

end Sys2Proof.Laws
end

