-- ==== Sys2Proof/Tests/Slice0.lean ====
section
/-!
SUPPORT. Tests: the well-formedness checks, words written out from the spec's encodings, one step of each instruction
with the expectation taken from `95_test_vectors.md`, and for each statement with hypotheses a state that meets them.
-/

namespace Sys2Proof.Tests

open Sys2Proof Sys2Proof.Machine
open Host (Outcome)

/-! ### Well-formedness -/

theorem test_wf_accepts :
    [Instr.write 255 0x10 50, .read 255 0x10, .cancel 255, .schedReset, .wrframe 0x10 50, .rdreq 0x10,
      .rdreply 0x6F 0x80 [0xBE], .busWrite [1, 2, 3, 4, 5], .busWrite [1, 2, 3, 4, 5, 6, 7], .busRead 1,
      .busRead 128].all (Instr.wf Config.suggestedParams) = true := by decide

theorem test_wf_refuses_wide_tags :
    (Instr.write 256 0x10 50).wf Config.suggestedParams = false ∧
    (Instr.read 256 0x10).wf Config.suggestedParams = false ∧
    (Instr.cancel 256).wf Config.suggestedParams = false := by decide

theorem test_wf_refuses_overlong_reply :
    (Instr.rdreply 0x6F 0x80 [0xBE, 0x00]).wf Config.suggestedParams = false := by decide

theorem test_wf_refuses_bus_request_lengths :
    (Instr.busWrite [1, 2, 3, 4]).wf Config.suggestedParams = false ∧
    (Instr.busWrite [1, 2, 3, 4, 5, 6]).wf Config.suggestedParams = false ∧
    (Instr.busRead 0).wf Config.suggestedParams = false ∧
    (Instr.busRead 129).wf Config.suggestedParams = false := by decide

/-! ### Decoding words written from the spec -/

/-- Commands of programs P1, P2, P3 and P7, by the fields given there. -/
theorem test_decode_commands :
    decode 0x37 (.cmd ⟨0b00, 1, 0x10, 0x00000032⟩) = .ok (.write 1 0x10 50) ∧
    decode 0x37 (.cmd ⟨0b01, 2, 0x10, 0xFFFFFFFF⟩) = .ok (.read 2 0x10) ∧
    decode 0x37 (.cmd ⟨0b10, 2, 0xFF, 7⟩) = .ok (.cancel 2) ∧
    decode 0x37 (.cmd ⟨0b11, 9, 0xFF, 7⟩) = .ok .schedReset := by decide

/-- R73, bit by bit, as program P1 writes it. -/
theorem test_decode_wrframe :
    decode 0x37 (.frame [0b01010001, 0b10000100, 0b00000011, 0b00010000, 0b00000000, 0b00110010, 0b10011010]) =
      .ok (.wrframe 0x10 50) := by decide

/-- R74, bit by bit. -/
theorem test_decode_rdreq :
    decode 0x37 (.frame [0b01010001, 0b10000010, 0b00000001, 0b00010000, 0b10101101]) = .ok (.rdreq 0x10) := by decide

/-- R76, bit by bit: the reply of `95_test_vectors.md` section 1.7. -/
theorem test_decode_rdreply :
    decode 0x37 (.reply [0b01101111, 0b10001000, 0b00000010, 0b00000000, 0b00010000, 0b00000000, 0b00000000,
      0b01100100, 0b00000000, 0b00110010, 0b11110010]) =
      .ok (.rdreply 0x6F 0x88 [0x02, 0x00, 0x10, 0x00, 0x00, 0x64, 0x00, 0x32, 0xF2]) := by decide

/-- R83. -/
theorem test_decode_bus_requests :
    decode 0x37 (.busReq 0 5 [0x51, 0x82, 0x01, 0x10, 0xAD]) = .ok (.busWrite [0x51, 0x82, 0x01, 0x10, 0xAD]) ∧
    decode 0x37 (.busReq 1 9 []) = .ok (.busRead 9) := by decide

/-- Each rejection, by its name. -/
theorem test_decode_rejects_frames :
    decode 0x37 (.frame [0x51, 0x84, 0x03, 0x10, 0x00, 0x32]) = .error .frameLength ∧
    decode 0x37 (.frame [0x50, 0x82, 0x01, 0x10, 0xAD]) = .error .magic ∧
    decode 0x37 (.frame [0x51, 0x02, 0x01, 0x10, 0xAD]) = .error .lengthByte ∧
    decode 0x37 (.frame [0x51, 0x82, 0x03, 0x10, 0xAD]) = .error .command ∧
    decode 0x37 (.frame [0x51, 0x82, 0x01, 0x10, 0xAC]) = .error .checksum ∧
    decode 0x37 (.reply [0x6F]) = .error .replyTooShort ∧
    decode 0x37 (.reply [0x6F, 0x80, 0xBE, 0x00]) = .error .replyTooLong ∧
    decode 0x37 (.busReq 1 129 []) = .error .busReqLength ∧
    decode 0x37 (.busReq 0 5 [1]) = .error .busReqData := by decide

/-- Words of the opcode table, as it numbers them. -/
theorem test_table_words :
    decodeTableWord 8 0 = some (.write 0 0 0) ∧ decodeTableWord 8 1 = some (.read 0 0) ∧
    decodeTableWord 8 2 = some (.cancel 0) ∧ decodeTableWord 8 3 = some .schedReset ∧
    decodeTableWord 56 0x5184031000329A = some (.wrframe 0x10 50) ∧
    decodeTableWord 40 0x51820110AD = some (.rdreq 0x10) ∧
    decodeTableWord 88 0x6F880200100000640032F2 = some (.rdreply 0x6F 0x88 [2, 0, 0x10, 0, 0, 0x64, 0, 0x32, 0xF2]) := by
  decide

/-! ### States for the tests -/

/-- The next state of an outcome, if there is one. -/
def nextOf : Outcome State Fault Refusal → Option State
  | .next s => some s
  | .fault _ => none
  | .refused _ => none

/-- A WRITE of 70 to control `0x12` with tag 2 (program P3). -/
def write2 : Entry := { tag := 2, kind := .txWrite, control := 0x12, frame := [0x51, 0x84, 0x03, 0x12, 0x00, 0x46, 0xEC] }

/-- The request of a READ of control `0x10` with tag 1 (program P4). -/
def request1 : Entry := { tag := 1, kind := .txRdreq, control := 0x10, frame := [0x51, 0x82, 0x01, 0x10, 0xAD] }

/-- The follow-up of that READ. -/
def follow1 : Entry := { tag := 1, kind := .txRdfollow, control := 0x10, frame := [] }

/-- The reset state with this entry on the bus, these entries queued, and two queue slots. -/
def onBus (e : Entry) (ph : Phase) (q : List Entry) : State :=
  { State.reset with
    params := { Config.suggestedParams with queueDepth := 2 }
    sched := .dispatching
    cur := some { entry := e, phase := ph }
    queue := q }

/-- A follow-up that awaits its ack byte with `n` ticks left of the timeout. -/
def awaitingAck (n : Nat) : State := { onBus follow1 .phAck [] with toLeft := n }

/-- A follow-up that awaits its tail of `data_length = 8`. -/
def awaitingTail : State :=
  { onBus follow1 .phTail [] with
    toLeft := 1, rxAck := some 0x6F, rxLen := some 0x88, dataLength := some 8,
    trace := [.accepted 1, .request 0x37 (.busRead 9)] }

/-- The reset state with two queue slots, `n` ticks of a write's delay left, and these entries queued. -/
def waitingFor (n : Nat) (q : List Entry) : State :=
  { State.reset with
    params := { Config.suggestedParams with queueDepth := 2 }
    sched := .waiting
    lastDir := some .write
    waitLeft := n
    queue := q }

/-! ### One step of each instruction -/

/-- `95_test_vectors.md` 2.2 and 2.5, first row: the frame is on the bus in the same reaction; and truncation. -/
theorem test_write_from_idle :
    (nextOf (exec (.write 1 0x10 0x00012345) State.reset)).map (fun t => (t.sched, requestsOf t.trace)) =
      some (.dispatching, [.busWrite [0x51, 0x84, 0x03, 0x10, 0x23, 0x45, 0xCE]]) := by decide

/-- A queue of two slots is full with one entry and one reserved slot (2.5, `QUEUE_DEPTH = 2`). -/
theorem test_write_not_ready : exec (.write 3 0x10 50) (onBus request1 .phWr [write2]) = .fault .cmdNotReady := rfl

/-- Program P2, first line. -/
theorem test_read_from_idle :
    (nextOf (exec (.read 2 0x10) State.reset)).map (fun t => (t.cur.map (fun c => c.phase), requestsOf t.trace)) =
      some (some .phWr, [.busWrite [0x51, 0x82, 0x01, 0x10, 0xAD]]) := by decide

/-- Section 2.5: `CANCEL` of a queued follow-up, behind a WRITE. -/
theorem test_cancel_queued :
    (nextOf (exec (.cancel 1) (waitingFor 30 [write2, follow1]))).map
      (fun t => (t.queue, t.waitLeft, (completionsOf t.trace).map (fun c => (c.tag, c.status)))) =
      some ([write2], 30, [(1, .cancelled)]) := by decide

/-- Section 2.5: `CANCEL` of the transaction on the bus does nothing. -/
theorem test_cancel_on_bus : exec (.cancel 1) (onBus request1 .phWr []) = .next (onBus request1 .phWr []) := rfl

/-- R146, worked example. -/
theorem test_schedReset_waiting :
    (nextOf (exec .schedReset (waitingFor 40 [request1, write2]))).map
      (fun t => (t.sched, t.queue, t.waitLeft, (completionsOf t.trace).map (fun c => c.tag))) =
      some (.idle, [], 0, [1, 2]) := by decide

/-- Program P7: a transaction on the bus is left alone. -/
theorem test_schedReset_on_bus :
    (nextOf (exec .schedReset (onBus request1 .phWr [write2]))).map
      (fun t => (t.sched, t.cur.map (fun c => c.phase), t.queue)) = some (.dispatching, some .phWr, []) := by decide

/-- Section 2.2. -/
theorem test_wrframe :
    (nextOf (exec (.wrframe 0x12 0x8000) State.reset)).map (fun t => t.built) =
      some (some [0x51, 0x84, 0x03, 0x12, 0x80, 0x00, 0x2A]) := by decide

/-- Section 2.3. -/
theorem test_rdreq :
    (nextOf (exec (.rdreq 0xFF) State.reset)).map (fun t => t.built) =
      some (some [0x51, 0x82, 0x01, 0xFF, 0x42]) := by decide

/-- Section 2.4, second row: value 4660, max 65535; then the delay of a read. -/
theorem test_rdreply_ok :
    (nextOf (exec (.rdreply 0x6F 0x88 [0x02, 0x00, 0x10, 0x01, 0xFF, 0xFF, 0x12, 0x34, 0x83]) (awaitingAck 300))).map
      (fun t => (t.sched, t.waitLeft, t.lastDir, completionsOf t.trace)) =
      some (.waiting, 60, some .read,
        [{ tag := 1, status := .ok, value := 4660, maxValue := 65535, buserr := 0 }]) := by decide

/-- Section 1.2: control binding. -/
theorem test_rdreply_control :
    (nextOf (exec (.rdreply 0x6F 0x88 [0x02, 0x00, 0x12, 0x00, 0x00, 0x64, 0x00, 0x46, 0x84]) (awaitingAck 300))).map
      (fun t => (requestsOf t.trace, (completionsOf t.trace).map (fun c => c.status))) =
      some ([.busRead 1, .busRead 9], [.controlMismatch]) := by decide

/-- Program P3: the delay over, the frame of the head goes out. -/
theorem test_busWrite_of_head :
    (nextOf (exec (.busWrite [0x51, 0x84, 0x03, 0x12, 0x00, 0x46, 0xEC]) (waitingFor 0 [write2, follow1]))).map
      (fun t => (t.sched, t.queue)) = some (.dispatching, [follow1]) := by decide

/-- R169: a follow-up starts with a read of one byte and loads the timeout. -/
theorem test_busRead_of_head :
    (nextOf (exec (.busRead 1) (waitingFor 0 [follow1]))).map (fun t => (t.cur.map (fun c => c.phase), t.toLeft)) =
      some (some .phAck, 300) := by decide

/-- R171: an accepted length byte `0x88` leads to a read of 9 bytes. -/
theorem test_busRead_of_tail :
    (nextOf (exec (.busRead 9) { onBus follow1 .phLen [] with rxLen := some 0x88, dataLength := some 8 })).map
      (fun t => (t.cur.map (fun c => c.phase), requestsOf t.trace)) = some (some .phTail, [.busRead 9]) := by decide

/-! ### Events -/

/-- Section 2.6: a response in the cycle of the last tick is processed first. -/
theorem test_response_before_tick :
    (nextOf (runSteps 3 { awaitingTail with inputs :=
      [.coincident ⟨false, some (.bytes [0x02, 0x00, 0x10, 0x00, 0x00, 0x64, 0x00, 0x32, 0xF2]), true, none⟩] })).map
      (fun t => (t.sched, t.waitLeft, (completionsOf t.trace).map (fun c => (c.status, c.value, c.maxValue)))) =
      some (.waiting, 59, [(.ok, 50, 100)]) := by decide

/-- Section 2.6: the last tick. -/
theorem test_timeout :
    (nextOf (State.tick (awaitingAck 1))).map
      (fun t => (t.cur.map (fun c => c.phase), (completionsOf t.trace).map (fun c => c.status))) =
      some (some .phDrain, [.timeout]) := by decide

/-- Section 2.7. -/
theorem test_hardReset :
    (nextOf (step { onBus request1 .phWr [write2] with inputs := [.hardReset] })).map
      (fun t => (t.sched, t.queue, t.cur, completionsOf t.trace)) = some (.idle, [], none, []) := by decide

/-- `withFetchWord` makes the first step after reset run its word. -/
theorem test_fetchWord_runs :
    (nextOf (step (State.reset.withFetchWord 8 1))).map (fun t => requestsOf t.trace) =
      some [.busWrite [0x51, 0x82, 0x01, 0x00, 0xBD]] := by decide

/-! ### States that meet the hypotheses of the statements -/

/-- A state with a follow-up on the bus meets the invariant. -/
theorem test_witness_inv_onBus : (awaitingAck 1).Inv := by
  refine ⟨by decide, by decide, by simp [awaitingAck, onBus, State.reset], ?_, ⟨rfl, rfl, rfl⟩, ?_⟩
  · intro n h
    cases h
    decide
  · exact ⟨rfl, rfl, _, rfl, ⟨by decide, rfl⟩, rfl, by decide, by decide, rfl, rfl, rfl⟩

/-- A state with a read request on the bus and a WRITE queued, which fills its two slots, meets the invariant. -/
theorem test_witness_inv_request : (onBus request1 .phWr [write2]).Inv := by
  refine ⟨by decide, by decide, ?_, ?_, ⟨rfl, rfl, rfl⟩, ?_⟩
  · intro e he
    obtain rfl : e = write2 := by simpa [onBus] using he
    exact ⟨by decide, 70, by decide⟩
  · intro n h
    cases h
    decide
  · exact ⟨rfl, rfl, _, rfl, ⟨by decide, rfl⟩, by decide, rfl, rfl, rfl, rfl⟩

/-- A follow-up at its tail read meets the invariant. -/
theorem test_witness_inv_tail : awaitingTail.Inv := by
  refine ⟨by decide, by decide, by simp [awaitingTail, onBus, State.reset], ?_, ⟨rfl, rfl, rfl⟩, ?_⟩
  · intro n h
    cases h
    decide
  · exact ⟨rfl, rfl, _, rfl, ⟨by decide, rfl⟩, rfl, by decide, by decide, rfl, 0x88, rfl, by decide, by decide⟩

/-- A state with a WRITE queued behind the last tick of a delay meets the invariant. -/
theorem test_witness_inv_waiting : (waitingFor 1 [write2]).Inv := by
  refine ⟨by decide, by decide, ?_, ?_, ⟨rfl, rfl, rfl⟩, ?_⟩
  · intro e he
    obtain rfl : e = write2 := by simpa [waitingFor] using he
    exact ⟨by decide, 70, by decide⟩
  · intro n h
    cases h
    decide
  · exact ⟨rfl, rfl, ⟨rfl, rfl, rfl⟩, .write, rfl, by decide, by decide⟩

/-- An idle state that has seen a whole operation meets the invariant. -/
theorem test_witness_inv_idle : { State.reset with trace := [.accepted 1, .completed (.plain 1 .ok)] }.Inv := by
  refine ⟨by decide, by decide, by simp [State.reset], ?_, ⟨rfl, rfl, rfl⟩, ?_⟩
  · intro n h
    cases h
    decide
  · exact ⟨rfl, rfl, rfl, rfl, rfl, rfl, rfl, rfl⟩

/-- DecodeOfEncodeIsTheInstruction, EncodeOfDecodeIsTheWord. -/
theorem test_witness_encoding :
    (Instr.write 255 0xFF 0xFFFFFFFF).wf Config.suggestedParams = true ∧
    (Instr.busRead 128).wf Config.suggestedParams = true ∧
    decode 0x37 (.busReq 1 128 []) = .ok (.busRead 128) ∧
    decode 0x37 (.reply [0x00, 0x00, 0x00]) = .ok (.rdreply 0 0 [0]) := by decide

/-- SingleBitSensitivity: a reply with no data at its one byte, and two flips at both ends of a reply. -/
theorem test_witness_flips :
    ([0xBE] : List Byte).length = 0 + 1 ∧ replyChecksum 0x37 0 (([0xBE] : List Byte).take 0) = ([0xBE] : List Byte).getD 0 0 ∧
    replyChecksum 0x37 8 ([2, 0, 0x10, 0, 0, 0x64, 0, 0x32, 0xF2].take 8) =
      ([2, 0, 0x10, 0, 0, 0x64, 0, 0x32, 0xF2] : List Byte).getD 8 0 ∧
    (([2, 0, 0x10, 0, 0, 0x64, 0, 0x32, 0xF2] : List Byte).set 0 0x82).set 8 0x72 =
      [0x82, 0, 0x10, 0, 0, 0x64, 0, 0x32, 0x72] := by decide

/-- ReplyAcceptedExactlyWhenAllTestsPass, ControlBindingIsExact, OneFlippedBitInAReply: section 2.4, first row. -/
theorem test_witness_accepted_reply :
    parseResponse 0x37 35 false 0x10 0x6F 0x88 [2, 0, 0x10, 0, 0, 0x64, 0, 0x32, 0xF2] = .ok ⟨50, 100⟩ ∧
    parseResponse 0x37 8 true 0x10 0x6F 0x88 [2, 0, 0x10, 0, 0, 0x64, 0, 0x32, 0xF2] = .ok ⟨50, 100⟩ ∧
    parseResponse 0x69 127 false 0x10 0xD3 0x88 [2, 0, 0x10, 0, 0, 0x64, 0, 0x32, 0x4E] = .ok ⟨50, 100⟩ ∧
    (0x12 : Byte) ≠ 0x10 := by decide

/-- ReplyOutcomeIsTheFirstFailingTest: the examples of R202, a reply without data at the one address where its checksum
passes (R126), and the longest length byte. -/
theorem test_witness_outcomes :
    parseResponse 0x37 35 false 0x10 0x6E 0x88 [2, 0, 0x10, 0, 0, 0x64, 0, 0x32, 0xF3] = .error .ackInvalid ∧
    parseResponse 0x37 35 false 0x10 0x6F 0x88 [2, 0, 0x12, 0, 0, 0x64, 0, 0x32, 0xF2] = .error .checksumError ∧
    parseResponse 0x37 35 false 0x10 0x6F 0x82 [5, 0, 0xB9] = .error .unexpectedReplyType ∧
    parseResponse 0x37 35 false 0x10 0x6F 0x82 [2, 0, 0xBE] = .error .truncatedResponse ∧
    parseResponse 0x69 35 false 0x10 0xD3 0x80 [2] = .error .truncatedResponse ∧
    (0xFF &&& 0x7F#8).toNat = 127 := by decide

/-- UnexaminedReplyFields: rows 1 and 4 of section 2.4 agree at the examined indices; the shortest and the longest
`data_length`. -/
theorem test_witness_unexamined :
    replyChecksum 0x37 8 ([2, 0, 0x10, 0, 0, 0x64, 0, 0x32, 0xF2].take 8) =
      ([2, 0, 0x10, 0, 0, 0x64, 0, 0x32, 0xF2] : List Byte).getD 8 0 ∧
    replyChecksum 0x37 10 ([2, 0, 0x10, 0, 0, 0x64, 0, 0x32, 0xAA, 0xBB, 0xE1].take 10) =
      ([2, 0, 0x10, 0, 0, 0x64, 0, 0x32, 0xAA, 0xBB, 0xE1] : List Byte).getD 10 0 ∧
    (∀ i ∈ [0, 2, 4, 5, 6, 7],
      ([2, 0, 0x10, 0, 0, 0x64, 0, 0x32, 0xF2] : List Byte).getD i 0 =
        ([2, 0, 0x10, 0, 0, 0x64, 0, 0x32, 0xAA, 0xBB, 0xE1] : List Byte).getD i 0) ∧
    8 ≤ (8#7).toNat ∧ 127 ≤ (127#7).toNat := by decide

/-- WriteSendsOrQueuesItsFrame: the entry of the WRITE of program P3, and a state for each clause, at the last free
slot. -/
theorem test_witness_write :
    write2 =
      { tag := 2, kind := .txWrite, control := 0x12,
        frame := [0x51, 0x84, 0x03, 0x12, (70#32).extractLsb' 8 8, (70#32).extractLsb' 0 8,
          ((0x37#7).zeroExtend 8 <<< 1) ^^^ 0xD6#8 ^^^ 0x12 ^^^ (70#32).extractLsb' 8 8 ^^^ (70#32).extractLsb' 0 8] } ∧
    (State.reset.sched = .idle ∧ State.reset.queue = [] ∧ 1 ≤ State.reset.params.queueDepth) ∧
    ((onBus request1 .phWr []).sched = .dispatching ∧ (onBus request1 .phWr []).cur = some ⟨request1, .phWr⟩ ∧
      (onBus request1 .phWr []).queue.length + (if request1.kind = .txRdreq then 1 else 0) <
        (onBus request1 .phWr []).params.queueDepth) ∧
    ((onBus write2 .phWr [follow1]).queue.length + (if write2.kind = .txRdreq then 1 else 0) <
        (onBus write2 .phWr [follow1]).params.queueDepth) ∧
    (1 ≤ (waitingFor 1 [follow1]).waitLeft ∧
      (waitingFor 1 [follow1]).queue.length < (waitingFor 1 [follow1]).params.queueDepth) := by decide

/-- ReadSendsOrQueuesItsRequest: the entry of the READ of program P4; the states are those of the WRITE. -/
theorem test_witness_read :
    request1 =
      { tag := 1, kind := .txRdreq, control := 0x10,
        frame := [0x51, 0x82, 0x01, 0x10, ((0x37#7).zeroExtend 8 <<< 1 ||| 1#8) ^^^ 0xD2#8 ^^^ 0x10] } := by decide

/-- AcceptedExactlyWhenReady: just room, and just none, with and without the reserved slot. -/
theorem test_witness_ready :
    (onBus request1 .phWr []).cmdReady = true ∧ (onBus request1 .phWr [write2]).cmdReady = false ∧
    (waitingFor 1 [write2]).cmdReady = true ∧ (waitingFor 1 [write2, follow1]).cmdReady = false := by decide

/-- CancelRemovesTheFirstOfItsTag: two entries with the tag, behind one without it; and none with it. -/
theorem test_witness_cancel :
    (waitingFor 1 [write2, follow1, request1]).queue = [write2] ++ follow1 :: [request1] ∧ follow1.tag = 1 ∧
    (∀ x ∈ [write2], x.tag ≠ 1) ∧ (∀ x ∈ (waitingFor 1 [write2]).queue, x.tag ≠ 1) := by decide

/-- SchedResetCancelsTheQueue: a read request on the bus and a single slot. -/
theorem test_witness_schedReset :
    (nextOf (exec .schedReset { onBus request1 .phWr [] with params := ⟨1, 8, 8⟩ })).map State.cmdReady = some false ∧
    (nextOf (exec .schedReset (onBus request1 .phWr [write2]))).map State.cmdReady = some true ∧
    (nextOf (exec .schedReset (waitingFor 1 [write2, follow1]))).map State.idleOut = some true := by decide

/-- ReplyByPhasesRefinesParseResponse, AckAndLengthResponses, OneTick, TimeoutOnTheLastTick: a follow-up at its ack
read. -/
theorem test_witness_ack :
    (awaitingAck 1).sched = .dispatching ∧ (awaitingAck 1).cur = some ⟨follow1, .phAck⟩ ∧
    follow1.kind = .txRdfollow ∧ (awaitingAck 1).toLeft = 0 + 1 := by decide

/-- TimeoutOnTheLastTick: the pending ticks, and what they lead to. -/
theorem test_witness_timeout :
    (nextOf (runSteps 2 { awaitingAck 2 with inputs := List.replicate 2 .tick })).map
      (fun t => (t.cur.map (fun c => c.phase), (completionsOf t.trace).map (fun c => c.status))) =
      some (some .phDrain, [.timeout]) := by decide

/-- OfferedBytesMeetThePhaseTheyFind, TailResponseEndsTheRead, DrainDiscardsTheResponse: the tail read and the
draining of a follow-up. -/
theorem test_witness_later_phases :
    awaitingTail.sched = .dispatching ∧ awaitingTail.cur = some ⟨follow1, .phTail⟩ ∧
    awaitingTail.dataLength = some 8 ∧
    ([2, 0, 0x10, 0, 0, 0x64, 0, 0x32, 0xF2] : List Byte).length ≤ (8#7).toNat + 1 ∧
    (onBus follow1 .phLen []).cur = some ⟨follow1, .phLen⟩ ∧
    (onBus follow1 .phDrain []).cur = some ⟨follow1, .phDrain⟩ ∧
    { awaitingTail with cur := some ⟨follow1, .phDrain⟩ }.dataLength = some 8 ∧
    255 < 2 ^ awaitingTail.params.buserrW := by decide

/-- AckAndLengthResponses: length bytes at the bound `MAX_DATA_LEN = 35`, just above it, and without the flag. -/
theorem test_witness_lengths :
    dataLengthOf 0xA3 ≤ (onBus follow1 .phLen []).cfg.maxDataLen ∧
    (onBus follow1 .phLen []).cfg.maxDataLen < dataLengthOf 0xA4 ∧ (0x08 : Byte).getLsbD 7 = false := by decide

/-- ReplyNeedsAnOutstandingRead, WriteResponseEndsTheWrite, RequestResponseQueuesTheFollowUp: nothing outstanding, and
both kinds in `PH_WR`. -/
theorem test_witness_write_phase :
    State.reset.sched ≠ .dispatching ∧ (onBus write2 .phWr []).cur = some ⟨write2, .phWr⟩ ∧
    write2.kind = .txWrite ∧ (onBus request1 .phWr []).cur = some ⟨request1, .phWr⟩ ∧ request1.kind = .txRdreq ∧
    255 < 2 ^ (onBus write2 .phWr []).params.buserrW := by decide

/-- ZeroDelayGoesOnInTheSameReaction: the response to a WRITE with DELAY_WRITE 0, with an empty queue, a WRITE and a
follow-up at its head; the acknowledgement of a read request; and a delay of one tick. -/
theorem test_witness_zero_delay :
    [(nextOf (State.respond { onBus write2 .phWr [] with cfg := { resetStraps.sample with delayWrite := 0 } } .ok)).map
        (fun t => (t.sched, requestsOf t.trace)),
      (nextOf (State.respond { onBus write2 .phWr [write2] with cfg := { resetStraps.sample with delayWrite := 0 } } .ok)).map
        (fun t => (t.sched, requestsOf t.trace)),
      (nextOf (State.respond { onBus write2 .phWr [follow1] with cfg := { resetStraps.sample with delayWrite := 0 } } .ok)).map
        (fun t => (t.sched, requestsOf t.trace)),
      (nextOf (State.respond { onBus request1 .phWr [] with cfg := { resetStraps.sample with delayWrite := 0 } } .ok)).map
        (fun t => (t.sched, requestsOf t.trace)),
      (nextOf (State.respond { onBus write2 .phWr [write2] with cfg := { resetStraps.sample with delayWrite := 1 } } .ok)).map
        (fun t => (t.sched, requestsOf t.trace))] =
      [some (.idle, []), some (.dispatching, [.busWrite write2.frame]), some (.dispatching, [.busRead 1]),
        some (.dispatching, [.busRead 1]), some (.waiting, [])] := by decide

/-- DispatchOfTheHead, StepRunsTheDueRequestFirst: requests that are due, from `Idle` and at the end of a delay. -/
theorem test_witness_due :
    { State.reset with queue := [write2] }.dueRequest = some (.busReq 0 7 write2.frame) ∧
    (waitingFor 0 [follow1]).dueRequest = some (.busReq 1 1 []) ∧
    decode 0x37 (.busReq 1 1 []) = .ok (.busRead 1) ∧
    decode 0x37 (.busReq 0 7 write2.frame) = .ok (.busWrite write2.frame) := by decide

/-- NextReadOfAFollowUp: the ack byte just accepted, and a length byte at the bound with the flag required. -/
theorem test_witness_next_read :
    { onBus follow1 .phAck [] with rxAck := some 0x6F }.rxAck =
      some (seed (onBus follow1 .phAck []).cfg.addr .read) ∧
    (0xA3 : Byte).getLsbD 7 = true ∧ dataLengthOf 0xA3 = 35 ∧ (35 : BitVec 7) ≤ (onBus follow1 .phLen []).cfg.maxDataLen := by
  decide

/-- OneTick, DelayExpiryDispatchesTheHead, DelayLastsItsTicks: the last tick of a delay, with and without a queue. -/
theorem test_witness_delay :
    (waitingFor 1 []).sched = .waiting ∧ (waitingFor 1 []).waitLeft = 0 + 1 ∧
    (waitingFor 1 [follow1]).queue = [follow1] ∧
    (nextOf (runSteps 1 { waitingFor 2 [follow1] with inputs := List.replicate 2 .tick })).map State.sched =
      some .waiting ∧
    (nextOf (runSteps 2 { waitingFor 2 [follow1] with inputs := List.replicate 2 .tick })).map State.sched =
      some .dispatching := by decide

/-- HardResetResetsEveryRegister, IllegalStrapsAreRefused: the straps of `State.reset`, and both ways to be illegal. -/
theorem test_witness_straps :
    1 ≤ State.reset.straps.readTimeout ∧ 8 ≤ State.reset.straps.maxDataLen.toNat ∧
    { resetStraps with readTimeout := 0 }.readTimeout = 0 ∧
    { resetStraps with maxDataLen := 7 }.maxDataLen < 8 := by decide

/-- StepRunsThePresentedInstruction, FetchWordRunsNext: a command presented between events. -/
theorem test_witness_presented :
    (waitingFor 1 [write2]).dueRequest = none ∧
    ¬ ((waitingFor 1 [write2]).sched = .waiting ∧ (waitingFor 1 [write2]).waitLeft = 0) ∧
    decode 0x37 (tableWord 8 8 2) = .ok (.cancel 0) ∧ (Instr.cancel 0).wf (waitingFor 1 [write2]).params = true := by
  decide

/-- StatusOutputsFollowTheState: a transaction on the bus, with and without room for another command. -/
theorem test_witness_outputs :
    (onBus write2 .phWr [follow1]).busyBus = true ∧ (onBus write2 .phWr [follow1]).idleOut = false ∧
    (onBus write2 .phWr [follow1]).cmdReady = true ∧ (onBus request1 .phWr [write2]).cmdReady = false ∧
    (waitingFor 1 []).busyBus = false ∧ (waitingFor 1 []).idleOut = false := by decide

/-- NoEventNoChange, CoincidentEventsInFixedOrder: no event, and four events in one cycle, without and with a
`HardReset`. -/
theorem test_witness_inputs :
    (waitingFor 1 [write2]).inputs = [] ∧
    (nextOf (step { waitingFor 1 [write2] with inputs :=
      [.coincident ⟨false, some .ok, true, some ⟨2, 2, 0, 0⟩⟩] })).map State.inputs =
      some [.rsp .ok, .tick, .word (.cmd ⟨2, 2, 0, 0⟩)] ∧
    (nextOf (step { waitingFor 1 [write2] with inputs :=
      [.coincident ⟨true, some .ok, true, some ⟨2, 2, 0, 0⟩⟩, .tick] })).map State.inputs = some [.hardReset, .tick] := by
  decide

/-- QueueStaysInOrder: what each way to leave the queue and to join it leads to. -/
theorem test_witness_queue :
    [{ waitingFor 1 [write2, follow1] with inputs := [.tick] },
      { waitingFor 9 [write2, follow1] with inputs := [.word (.cmd ⟨2, 2, 0, 0⟩)] },
      { waitingFor 9 [write2, follow1] with inputs := [.word (.cmd ⟨3, 0, 0, 0⟩)] },
      { waitingFor 9 [follow1] with inputs := [.word (.cmd ⟨0, 2, 0x12, 70⟩)] },
      { waitingFor 9 [write2] with inputs := [.word (.cmd ⟨1, 1, 0x10, 0⟩)] },
      { onBus request1 .phWr [write2] with inputs := [.rsp .ok] }].map (fun s => (nextOf (step s)).map State.queue) =
      [some [follow1], some [follow1], some [], some [follow1, write2], some [write2, request1],
        some [write2, follow1]] := by decide

/-- OneFollowUpPerRead: an acknowledged read request, and a fresh tag for a new operation. -/
theorem test_witness_follow_up :
    ∃ s t : State, s.Inv ∧ step s = .next t ∧ s.liveTags.Nodup ∧ s.queue.count follow1 < t.queue.count follow1 ∧
      3 ∉ (waitingFor 1 [write2]).liveTags :=
  ⟨{ onBus request1 .phWr [write2] with inputs := [.rsp .ok] }, _, by
    obtain ⟨a, b, c, d, e, f⟩ := test_witness_inv_request
    exact ⟨a, b, c, d, e, f⟩, rfl, by decide, by decide, by decide⟩

/-- ValuesComeOnlyFromReads: a READ that succeeds on the bytes of section 1.7. -/
theorem test_witness_values :
    awaitingTail.Inv ∧
    (nextOf (step { awaitingTail with inputs :=
      [.rsp (.bytes [0x02, 0x00, 0x10, 0x00, 0x00, 0x64, 0x00, 0x32, 0xF2])] })).map
      (fun t => (completionsOf t.trace).map (fun c => (c.tag, c.value, c.maxValue))) = some [(1, 50, 100)] :=
  ⟨test_witness_inv_tail, by decide⟩

/-- ConfigurationIsConstant, ObservationOnlyGrows, CompletionsCarryOnlyWhatTheyMean: a step that removes from a queue and
adds to the observation. -/
theorem test_witness_step :
    (nextOf (step { waitingFor 1 [write2] with inputs := [.tick] })).isSome = true ∧
    (nextOf (step { waitingFor 1 [write2] with inputs := [.hardReset] })).isSome = true ∧
    (∀ c ∈ completionsOf (waitingFor 1 [write2]).trace, c.Meaningful) := by decide

/-- EveryStepKeepsTheInvariant, AtMostOneRequestInFlight, OneCompletionPerOperation, MinimumDelayBetweenTransactions:
the premises hold together of a state whose delay ends on the next step. -/
theorem test_witness_invariants :
    ∃ s : State, s.Inv ∧ outstanding s.trace = (s.sched == .dispatching) ∧ oneInFlight s.trace = true ∧
      owedCompletions s.trace = s.liveOperations ∧ (acceptedTags s.trace).Perm (completedTags s.trace ++ s.liveTags) ∧
      s.DelayCounted ∧ s.sched = .waiting ∧ s.lastDir = some .write ∧
      (nextOf (step s)).map State.sched = some .dispatching := by
  refine ⟨{ waitingFor 1 [write2] with
    trace := .accepted 2 :: .responded :: List.replicate 59 .ticked, inputs := [.tick] }, ?_, by decide, by decide,
    by decide, by decide, ?_, rfl, rfl, by decide⟩
  · obtain ⟨a, b, c, d, e, f⟩ := test_witness_inv_waiting
    exact ⟨a, b, c, d, e, f⟩
  · intro _
    exact ⟨.write, rfl, by decide⟩

/-- IdleMeansEverythingIsAnswered. -/
theorem test_witness_idle :
    ∃ s : State, s.Inv ∧ owedCompletions s.trace = s.liveOperations ∧ s.sched = .idle ∧ s.trace ≠ [] :=
  ⟨_, test_witness_inv_idle, by decide, rfl, by decide⟩

end Sys2Proof.Tests
end

section
/-!
PROOFS. The scope (`00_scope.md` R12 to R16): which event a step takes, and that a step only adds to the observation.
-/

namespace Sys2Proof.Machine

/-! ### The observation only grows (R16) -/

/-- A dispatch emits one request and removes nothing from the observation. -/
theorem State.trace_prefix_dispatch (s : State) (e : Entry) : s.trace <+: (s.dispatch e).trace := by
  obtain ⟨_, r, -, ht⟩ := State.dispatch_spec s e
  exact ht ▸ List.prefix_append _ _

theorem State.trace_prefix_dispatchHead (s : State) : s.trace <+: s.dispatchHead.trace := by
  cases hq : s.queue with
  | nil => rw [State.dispatchHead_nil s hq]
  | cons e q =>
    rw [State.dispatchHead_cons s e q hq]
    exact State.trace_prefix_dispatch { s with queue := q } e

theorem State.trace_prefix_settle (s : State) : s.trace <+: s.settle.trace := by
  obtain ⟨-, h⟩ | ⟨-, -, -, h⟩ | ⟨e, q, -, -, h⟩ := State.settle_cases s <;> rw [h]
  · rw [State.expireToIdle_trace]
  · exact State.trace_prefix_dispatch { s with queue := q } e

theorem State.trace_prefix_writeAnswered (s : State) (c : Cur) (a : Option BusErr) :
    s.trace <+: (s.writeAnswered c a).trace := by
  cases a <;> simp [State.writeAnswered]

theorem State.trace_prefix_requestAnswered (s : State) (c : Cur) (a : Option BusErr) :
    s.trace <+: (s.requestAnswered c a).trace := by
  cases a <;> simp [State.requestAnswered]

theorem State.trace_prefix_ackAnswered (s : State) (c : Cur) (a : Except BusErr (List Byte)) :
    s.trace <+: (s.ackAnswered c a).trace := by
  unfold State.ackAnswered
  split
  · simp
  · simp
  · split <;> simp

theorem State.trace_prefix_lenAnswered (s : State) (c : Cur) (a : Except BusErr (List Byte)) :
    s.trace <+: (s.lenAnswered c a).trace := by
  unfold State.lenAnswered
  split
  · simp
  · simp
  · split <;> simp

theorem State.trace_prefix_tailAnswered (s : State) (c : Cur) (n : Nat) (a : Except BusErr (List Byte)) :
    s.trace <+: (s.tailAnswered c n a).trace := by
  unfold State.tailAnswered
  split
  · simp
  · split
    · simp
    · split <;> simp

theorem State.trace_prefix_answer {s t : State} {c : Cur} {r : BusRsp} (h : s.answer c r = .next t) :
    s.trace <+: t.trace := by
  obtain ⟨-, -, a, -, rfl⟩ | ⟨-, -, a, -, rfl⟩ | ⟨-, a, -, rfl⟩ | ⟨-, a, -, rfl⟩ | ⟨-, d, a, -, -, rfl⟩ | ⟨-, rfl⟩ :=
    State.answer_next h
  · exact State.trace_prefix_writeAnswered s c a
  · exact State.trace_prefix_requestAnswered s c a
  · exact State.trace_prefix_ackAnswered s c a
  · exact State.trace_prefix_lenAnswered s c a
  · exact State.trace_prefix_tailAnswered s c d.toNat a
  · rw [State.finishTransaction_trace]

theorem State.trace_prefix_respond {s t : State} {r : BusRsp} (h : s.respond r = .next t) : s.trace <+: t.trace := by
  obtain ⟨-, c, u, -, -, ha, rfl⟩ := State.respond_next h
  calc s.trace
    _ <+: (s.emit .responded).trace := List.prefix_append _ _
    _ <+: u.trace := State.trace_prefix_answer ha
    _ <+: u.settle.trace := State.trace_prefix_settle u

theorem State.trace_prefix_offer {s t : State} {k : Nat} {bs : List Byte} (h : State.offer k bs s = .next t) :
    s.trace <+: t.trace :=
  State.offer_keeps (P := fun u => s.trace <+: u.trace) (fun _ _ _ hu hr => hu.trans (State.trace_prefix_respond hr))
    k bs s t List.prefix_rfl h

theorem State.trace_prefix_accept {s t : State} {e : Entry} (h : s.accept e = .next t) : s.trace <+: t.trace := by
  obtain ⟨-, -, -, rfl⟩ := State.accept_next h
  have haccepted : s.trace <+: ((s.emit (.accepted e.tag)).enqueue e).trace := List.prefix_append _ _
  exact haccepted.trans (State.trace_prefix_settle _)

theorem State.trace_prefix_tickTimeout (s : State) (c : Cur) : s.trace <+: (s.tickTimeout c).trace := by
  obtain ⟨-, h⟩ | ⟨-, h⟩ := State.tickTimeout_cases s c <;> simp [h]

theorem State.trace_prefix_tick {s t : State} (h : s.tick = .next t) : s.trace <+: t.trace := by
  have hticked : s.trace <+: (s.emit .ticked).trace := List.prefix_append _ _
  obtain ⟨-, rfl⟩ | ⟨-, rfl⟩ | ⟨-, c, -, ⟨-, rfl⟩ | ⟨-, rfl⟩⟩ := State.tick_next h
  · exact hticked.trans (State.trace_prefix_settle _)
  · exact hticked.trans (State.trace_prefix_settle { s.emit .ticked with waitLeft := s.waitLeft - 1 })
  · exact hticked.trans (State.trace_prefix_tickTimeout _ c)
  · exact hticked

theorem State.trace_prefix_hardReset {s t : State} (h : s.hardReset = .next t) : s.trace <+: t.trace := by
  obtain ⟨-, rfl⟩ := State.hardReset_next h
  exact List.prefix_append _ _

theorem trace_prefix_execCancel {s t : State} {tag : Tag} (h : execCancel tag s = .next t) : s.trace <+: t.trace := by
  unfold execCancel at h
  split at h <;> cases h <;> simp

theorem trace_prefix_execSchedReset {s t : State} (h : execSchedReset s = .next t) : s.trace <+: t.trace := by
  unfold execSchedReset at h
  split at h <;> cases h <;> simp

theorem trace_prefix_execBusWrite {s t : State} {data : List Byte} (h : execBusWrite data s = .next t) :
    s.trace <+: t.trace := by
  unfold execBusWrite at h
  split at h <;> cases h
  exact State.trace_prefix_dispatchHead s

theorem trace_prefix_execBusRead {s t : State} {n : Nat} (h : execBusRead n s = .next t) : s.trace <+: t.trace := by
  unfold execBusRead at h
  split at h
  · split at h <;> cases h
    · simp
    · exact State.trace_prefix_dispatchHead s
  · cases h

/-- No instruction rewrites the observation; the two builders leave it as it is. -/
theorem trace_prefix_exec {s t : State} {i : Instr} (h : exec i s = .next t) : s.trace <+: t.trace := by
  cases i with
  | write tag control value => exact State.trace_prefix_accept h
  | read tag control => exact State.trace_prefix_accept h
  | cancel tag => exact trace_prefix_execCancel h
  | schedReset => exact trace_prefix_execSchedReset h
  | wrframe control value => cases h; exact List.prefix_rfl
  | rdreq control => cases h; exact List.prefix_rfl
  | rdreply ack len tail => exact State.trace_prefix_offer h
  | busWrite data => exact trace_prefix_execBusWrite h
  | busRead n => exact trace_prefix_execBusRead h

theorem trace_prefix_runWord {s t : State} {w : PortWord} (h : runWord w s = .next t) : s.trace <+: t.trace := by
  obtain ⟨i, -, -, hi⟩ := runWord_next h
  exact trace_prefix_exec hi

theorem trace_prefix_react {s t : State} {e : Input} (h : react e s = .next t) : s.trace <+: t.trace := by
  obtain ⟨w, -, h⟩ | ⟨r, -, h⟩ | ⟨-, h⟩ | ⟨-, h⟩ | ⟨c, -, rfl⟩ := react_next h
  · exact trace_prefix_runWord h
  · exact State.trace_prefix_respond h
  · exact State.trace_prefix_tick h
  · exact State.trace_prefix_hardReset h
  · exact List.prefix_rfl

/-- Settles O52: each of the four things a step can do, taken from `step_next`, extends the observation. -/
theorem observationOnlyGrows : Obligations.ObservationOnlyGrows := by
  intro s t h
  obtain ⟨w, -, h⟩ | ⟨-, -, -, rfl⟩ | ⟨-, -, rfl⟩ | ⟨-, e, rest, -, h⟩ := step_next h
  · exact trace_prefix_runWord h
  · rw [State.expireToIdle_trace]
  · exact List.prefix_rfl
  · exact trace_prefix_react (s := { s with inputs := rest }) h

/-! ### Which event a step takes (R12, R13) -/

/-- A port word that decodes to a well-formed instruction runs that instruction. -/
theorem runWord_of_decode {s : State} {w : PortWord} {i : Instr} (hd : decode s.cfg.addr w = .ok i)
    (hw : i.wf s.params = true) : runWord w s = exec i s := by
  simp [runWord, hd, hw]

/-- An owed transport request is run before any pending event. -/
theorem step_of_dueRequest {s : State} {w : PortWord} (h : s.dueRequest = some w) : step s = runWord w s := by
  simp [step, h]

/-- A step where nothing is urgent and no event is pending leaves the state as it is. -/
theorem step_of_no_input {s : State} (hd : s.dueRequest = none) (hw : ¬ (s.sched = .waiting ∧ s.waitLeft = 0))
    (hi : s.inputs = []) : step s = .next s := by
  simp [step, hd, hw, hi]

/-- Between events no expiry of the delay is enabled: while `Waiting` at least one tick is left
(`State.SchedOk`). -/
theorem State.Inv.not_expired {s : State} (h : s.Inv) : ¬ (s.sched = .waiting ∧ s.waitLeft = 0) := by
  rintro ⟨hs, h0⟩
  have hsched := h.sched
  simp only [State.SchedOk, hs] at hsched
  obtain ⟨-, -, -, _, -, hleft, -⟩ := hsched
  omega

/-- Between events no dispatch is enabled with an entry to take: in `Idle` the queue is empty (R37 i). -/
theorem State.Inv.queue_of_atDispatchPoint {s : State} (h : s.Inv) (hp : s.atDispatchPoint = true) : s.queue = [] := by
  cases hs : s.sched with
  | idle =>
    have hsched := h.sched
    simp only [State.SchedOk, hs] at hsched
    exact hsched.1
  | waiting =>
    have hleft : s.waitLeft = 0 := by simpa [State.atDispatchPoint, hs] using hp
    exact absurd ⟨hs, hleft⟩ h.not_expired
  | dispatching => simp [State.atDispatchPoint, hs] at hp

/-- Between events a follow-up that awaits the ack byte or the length byte has not yet written it (R29), so no next read
is owed. -/
theorem State.CurOk.owedRead_eq_none {s : State} {c : Cur} (hs : s.sched = .dispatching) (hc : s.cur = some c)
    (h : s.CurOk c) : s.owedRead = none := by
  unfold State.CurOk at h
  split at h <;> rename_i hph
  · simp [State.owedRead, hs, hc, hph]
  · obtain ⟨-, -, -, hack, -⟩ := h
    simp [State.owedRead, hs, hc, hph, hack]
  · obtain ⟨-, -, -, -, hlen, -⟩ := h
    simp [State.owedRead, hs, hc, hph, hlen]
  · simp [State.owedRead, hs, hc, hph]
  · simp [State.owedRead, hs, hc, hph]

theorem State.Inv.owedRead_eq_none {s : State} (h : s.Inv) : s.owedRead = none := by
  cases hs : s.sched with
  | idle => simp [State.owedRead, hs]
  | waiting => simp [State.owedRead, hs]
  | dispatching =>
    have hsched := h.sched
    simp only [State.SchedOk, hs] at hsched
    obtain ⟨-, -, c, hc, -, hok⟩ := hsched
    exact hok.owedRead_eq_none hs hc

/-- Between events the block owes no transport request (R13). -/
theorem State.Inv.dueRequest_eq_none {s : State} (h : s.Inv) : s.dueRequest = none := by
  unfold State.dueRequest
  split
  · rename_i hp
    rw [h.queue_of_atDispatchPoint hp]
  · rw [h.owedRead_eq_none]

/-- Between events a step is the reaction to the oldest pending event. -/
theorem State.Inv.step_eq_react {s : State} (h : s.Inv) {e : Input} {rest : List Input} (hi : s.inputs = e :: rest) :
    step s = react e { s with inputs := rest } :=
  step_of_quiescent h.dueRequest_eq_none h.not_expired hi

/-- Settles O40: with nothing urgent a step reacts to the oldest event, and a decodable word runs its instruction. -/
theorem stepRunsThePresentedInstruction : Obligations.StepRunsThePresentedInstruction := by
  intro s w rest i hdue hwait hi hd hw
  rw [step_of_quiescent hdue hwait hi]
  exact runWord_of_decode (s := { s with inputs := rest }) hd hw

/-- Settles O41: an owed request is run first, and as the instruction it decodes to. -/
theorem stepRunsTheDueRequestFirst : Obligations.StepRunsTheDueRequestFirst := by
  intro s w i hdue hd hw
  rw [step_of_dueRequest hdue, runWord_of_decode hd hw]

/-- Settles O42: the presented word is an event like another, so O40 applies, with nothing urgent by the invariant. -/
theorem fetchWordRunsNext : Obligations.FetchWordRunsNext := by
  intro s nbits w i hinv hd hw
  exact stepRunsThePresentedInstruction (s.withFetchWord nbits w) _ s.inputs i hinv.dueRequest_eq_none
    hinv.not_expired rfl hd hw

/-- Settles O43: the invariant leaves nothing urgent, and no event is pending. -/
theorem noEventNoChange : Obligations.NoEventNoChange := by
  intro s hinv hi
  exact step_of_no_input hinv.dueRequest_eq_none hinv.not_expired hi

/-! ### Events of one cycle (R14) -/

/-- The fixed order of the events of one cycle: a `HardReset` alone, or else `BusRsp`, `Tick`, `Cmd`. -/
theorem Coincident.inOrder_eq (c : Coincident) :
    c.inOrder =
      if c.hardReset then [.hardReset]
      else
        c.rsp.toList.map Input.rsp ++ (if c.tick then [.tick] else []) ++
          c.cmd.toList.map (fun w => .word (.cmd w)) := by
  obtain ⟨reset, rsp, tick, cmd⟩ := c
  cases rsp <;> cases cmd <;> simp [Coincident.inOrder]

/-- Settles O44: between events a step expands the cycle, in the order of `Coincident.inOrder_eq`. -/
theorem coincidentEventsInFixedOrder : Obligations.CoincidentEventsInFixedOrder := by
  intro s c rest hinv hi
  rw [hinv.step_eq_react hi, react, Coincident.inOrder_eq]
  split <;> rfl

end Sys2Proof.Machine
end

section
/-!
PROOFS. The state (`10_state.md`). First what one step can do, said once: `step_turn` takes a step apart into
the urgent transitions of the engine and the reactions to an event, each with the state it answers. Every
statement of this part is then a case analysis over `Turn` and `Reaction`, and does not unfold the step.
-/

namespace Sys2Proof.Machine

/-! ### What a completion may carry (R31) -/

theorem Completion.plain_meaningful (tag : Tag) (st : Status) : (Completion.plain tag st).Meaningful :=
  ⟨.inr ⟨rfl, rfl⟩, .inr rfl⟩

theorem Completion.failed_meaningful (tag : Tag) (st : Status) (info : BusErr) :
    (Completion.failed tag st info).Meaningful := by
  refine ⟨.inr ⟨rfl, rfl⟩, ?_⟩
  by_cases h : st = .busError
  · exact .inl h
  · exact .inr (if_neg h)

theorem Completion.readOk_meaningful (tag : Tag) (r : ReadResult) : (Completion.readOk tag r).Meaningful :=
  ⟨.inl rfl, .inr rfl⟩

/-- Whether a completion carries a value. -/
abbrev Completion.Valued (k : Completion) : Prop := k.value ≠ 0 ∨ k.maxValue ≠ 0

theorem Completion.plain_not_valued (tag : Tag) (st : Status) : ¬ (Completion.plain tag st).Valued := by
  simp [Completion.plain]

theorem Completion.failed_not_valued (tag : Tag) (st : Status) (info : BusErr) :
    ¬ (Completion.failed tag st info).Valued := by
  simp [Completion.failed, Completion.plain]

/-! ### What a response can do (R163 to R175) -/

/-- The follow-up `c` goes on to its next read: its ack byte or its length byte was accepted (R170, R171). -/
inductive ReadsOn (s : State) (c : Cur) : State → Prop
  /-- from the ack read to the length read -/
  | ack (a : Byte) (hph : c.phase = .phAck) (ha : ackAccepted s.cfg.addr a = true) :
      ReadsOn s c (({ s with rxAck := some a }).nextRead c .phLen 1)
  /-- from the length read to the tail read -/
  | len (l : Byte) (hph : c.phase = .phLen)
      (hl : lengthAccepted s.cfg.strictLengthFlag s.cfg.maxDataLen l = true) :
      ReadsOn s c (({ s with rxLen := some l, dataLength := some (dataLengthOf l) }).nextRead c .phTail
        ((dataLengthOf l).toNat + 1))

/-- What the response `r` to the request of `c` leaves, before the internal transitions. -/
inductive Answered (s : State) (c : Cur) (r : BusRsp) : State → Prop
  /-- the operation and its transaction end -/
  | completed (k : Completion) (hph : c.phase ≠ .phDrain) (htag : k.tag = c.entry.tag) (hk : k.Meaningful)
      (hv : k.Valued → c.phase = .phTail) : Answered s c r ((s.complete k).finishTransaction c)
  /-- a read request is acknowledged and its follow-up queued -/
  | acknowledged (hph : c.phase = .phWr) (hkind : c.entry.kind = .txRdreq) (hr : r = .ok) :
      Answered s c r ((s.enqueue c.followUp).finishTransaction c)
  /-- the response after a timeout is discarded -/
  | drained (hph : c.phase = .phDrain) : Answered s c r (s.finishTransaction c)
  /-- the same follow-up goes on -/
  | readsOn {u : State} (h : ReadsOn s c u) : Answered s c r u

/-- The end of a transaction empties the parser registers, so what was loaded into them before an error is not
seen. -/
theorem Answered.raised {s : State} {c : Cur} {r : BusRsp} (st : Status) (info : BusErr) (hph : c.phase ≠ .phDrain) :
    Answered s c r (s.raise c st info) :=
  .completed (.failed c.entry.tag st info) hph rfl (Completion.failed_meaningful ..)
    (fun h => absurd h (Completion.failed_not_valued _ _ _))

theorem BusRsp.eq_ok_of_writeAnswer {r : BusRsp} (h : r.writeAnswer = some none) : r = .ok := by
  cases r <;> simp_all [BusRsp.writeAnswer]

theorem State.writeAnswered_answered (s : State) (c : Cur) (r : BusRsp) (a : Option BusErr) (hph : c.phase = .phWr) :
    Answered s c r (s.writeAnswered c a) := by
  have hd : c.phase ≠ .phDrain := by simp [hph]
  cases a with
  | some e => exact .raised .busError e hd
  | none =>
    exact .completed (.plain c.entry.tag .ok) hd rfl (Completion.plain_meaningful ..)
      (fun h => absurd h (Completion.plain_not_valued _ _))

theorem State.requestAnswered_answered (s : State) (c : Cur) {r : BusRsp} {a : Option BusErr} (hph : c.phase = .phWr)
    (hkind : c.entry.kind = .txRdreq) (ha : r.writeAnswer = some a) : Answered s c r (s.requestAnswered c a) := by
  cases a with
  | some e => exact .raised .busError e (by simp [hph])
  | none => exact .acknowledged hph hkind (BusRsp.eq_ok_of_writeAnswer ha)

theorem State.ackAnswered_answered (s : State) (c : Cur) (r : BusRsp) (a : Except BusErr (List Byte))
    (hph : c.phase = .phAck) : Answered s c r (s.ackAnswered c a) := by
  have hd : c.phase ≠ .phDrain := by simp [hph]
  rcases a with e | _ | ⟨b, bs⟩
  · exact .raised .busError e hd
  · exact .raised .truncatedResponse 0 hd
  · simp only [State.ackAnswered]
    split
    · rename_i ha; exact .readsOn (.ack b hph ha)
    · exact .raised (s := s) .ackInvalid 0 hd

theorem State.lenAnswered_answered (s : State) (c : Cur) (r : BusRsp) (a : Except BusErr (List Byte))
    (hph : c.phase = .phLen) : Answered s c r (s.lenAnswered c a) := by
  have hd : c.phase ≠ .phDrain := by simp [hph]
  rcases a with e | _ | ⟨b, bs⟩
  · exact .raised .busError e hd
  · exact .raised .truncatedResponse 0 hd
  · simp only [State.lenAnswered]
    split
    · rename_i hl; exact .readsOn (.len b hph hl)
    · exact .raised (s := s) .malformedLength 0 hd

theorem State.tailAnswered_answered (s : State) (c : Cur) (r : BusRsp) (n : Nat) (a : Except BusErr (List Byte))
    (hph : c.phase = .phTail) : Answered s c r (s.tailAnswered c n a) := by
  have hd : c.phase ≠ .phDrain := by simp [hph]
  cases a with
  | error e => exact .raised .busError e hd
  | ok tail =>
    simp only [State.tailAnswered]
    split
    · exact .raised .truncatedResponse 0 hd
    · split
      · rename_i st _; exact .raised (s := s) st 0 hd
      · rename_i v _
        exact .completed (s := s) (.readOk c.entry.tag v) hd rfl (Completion.readOk_meaningful ..) (fun _ => hph)

theorem State.answered_of_answer {s u : State} {c : Cur} {r : BusRsp} (h : s.answer c r = .next u) :
    Answered s c r u := by
  obtain ⟨hph, -, a, -, rfl⟩ | ⟨hph, hk, a, ha, rfl⟩ | ⟨hph, a, -, rfl⟩ | ⟨hph, a, -, rfl⟩ |
    ⟨hph, d, a, -, -, rfl⟩ | ⟨hph, rfl⟩ := State.answer_next h
  · exact State.writeAnswered_answered s c r a hph
  · exact State.requestAnswered_answered s c hph hk ha
  · exact State.ackAnswered_answered s c r a hph
  · exact State.lenAnswered_answered s c r a hph
  · exact State.tailAnswered_answered s c r d.toNat a hph
  · exact .drained hph

/-- What the response `r` does as a whole: the transaction in flight is answered, and the internal transitions
follow. -/
inductive Response (s : State) (r : BusRsp) : State → Prop
  | mk {c : Cur} {u : State} (hs : s.sched = .dispatching) (hc : s.cur = some c)
      (hu : Answered (s.emit .responded) c r u) : Response s r u.settle

theorem State.response_of_respond {s t : State} {r : BusRsp} (h : s.respond r = .next t) : Response s r t := by
  obtain ⟨hs, c, u, hc, -, hu, rfl⟩ := State.respond_next h
  exact .mk hs hc (State.answered_of_answer hu)

/-! ### What an offered reply can do (R113) -/

/-- The follow-up in flight takes a byte that is accepted, and goes on to its next read. -/
def TakesOn (s v : State) : Prop :=
  s.sched = .dispatching ∧ ∃ c, s.cur = some c ∧ ReadsOn (s.emit .responded) c v

/-- `State.readsOn` tells the responses after which the same follow-up goes on from those that end a transaction: the
transaction that a dispatch puts on the bus awaits its first response. -/
theorem takesOn_of_respond {s t : State} {r : BusRsp} (h : s.respond r = .next t) (hr : s.readsOn t = true) :
    TakesOn s t := by
  obtain ⟨hs, c, u, hc, -, hu, rfl⟩ := State.respond_next h
  have ended_absurd : u.cur = none → False := by
    intro hn
    obtain ⟨-, -, c₀, ph, n, -, ht, -⟩ := State.respond_reads_on h hr
    have hph : ph = .phWr ∨ ph = .phAck := State.settle_first_phase u hn ht
    rcases hph with rfl | rfl <;> simp [State.readsOn, hc, ht] at hr
  cases State.answered_of_answer hu with
  | completed => exact (ended_absurd rfl).elim
  | acknowledged => exact (ended_absurd rfl).elim
  | drained => exact (ended_absurd rfl).elim
  | readsOn hon =>
    have hq : u.Quiescent := by cases hon <;> simp [State.Quiescent, hs]
    rw [State.settle_of_quiescent u hq]
    exact ⟨hs, c, hc, hon⟩

/-- An offered reply is taken by accepted bytes first, and then by one last response. -/
theorem State.offer_next {s t : State} (k : Nat) (bs : List Byte) (h : State.offer (k + 1) bs s = .next t) :
    ∃ v b, Relation.ReflTransGen TakesOn s v ∧ Response v (.bytes b) t := by
  induction k generalizing s bs with
  | zero =>
    rw [State.offer] at h
    split at h
    · exact ⟨s, bs, .refl, State.response_of_respond h⟩
    · rename_i n _
      split at h
      · rename_i u hu
        rw [State.offer, ite_self] at h
        cases h
        exact ⟨s, bs.take n, .refl, State.response_of_respond hu⟩
      · cases h
      · cases h
  | succ k ih =>
    rw [State.offer] at h
    split at h
    · exact ⟨s, bs, .refl, State.response_of_respond h⟩
    · rename_i n _
      split at h
      · rename_i u hu
        split at h
        · rename_i hon
          obtain ⟨v, b, huv, hv⟩ := ih _ h
          exact ⟨v, b, .head (takesOn_of_respond hu hon) huv, hv⟩
        · cases h
          exact ⟨s, bs.take n, .refl, State.response_of_respond hu⟩
      · cases h
      · cases h

/-! ### What a reaction can do -/

/-- The entry that a WRITE or READ command makes (R160, R162). -/
def CmdWord.Makes (c : CmdWord) (addr : BitVec 7) (e : Entry) : Prop :=
  (c.op = 0 ∧ e = writeEntry addr c.tag c.control c.value) ∨ (c.op = 1 ∧ e = readEntry addr c.tag c.control)

/-- What the reaction to an event can do in the state `s`, the event taken from the pending ones. -/
inductive Reaction (s : State) : Input → State → Prop
  /-- a WRITE or READ is accepted (R160, R162) -/
  | accepted (c : CmdWord) (e : Entry) (n : Nat) (hmade : CmdWord.Makes c s.cfg.addr e)
      (htag : c.tag < 2 ^ s.params.tagW) (hn : s.occupancy = some n) (hroom : n < s.params.queueDepth) :
      Reaction s (.word (.cmd c)) ((s.emit (.accepted e.tag)).enqueue e).settle
  /-- a CANCEL takes the entry of its tag nearest the head (R144) -/
  | cancelled (c : CmdWord) (pre : List Entry) (e : Entry) (post : List Entry) (hop : c.op = 2)
      (hq : s.queue = pre ++ e :: post) (he : e.tag = c.tag) (hpre : ∀ x ∈ pre, x.tag ≠ c.tag) :
      Reaction s (.word (.cmd c)) (({ s with queue := pre ++ post }).raiseCancelled c.tag)
  /-- a SCHED_RESET cancels the queue (R147) -/
  | emptied (c : CmdWord) (hop : c.op = 3) (hs : s.sched ≠ .waiting) : Reaction s (.word (.cmd c)) s.cancelAll
  /-- a SCHED_RESET while `Waiting` ends the delay too (R146) -/
  | emptiedWaiting (c : CmdWord) (hop : c.op = 3) (hs : s.sched = .waiting) :
      Reaction s (.word (.cmd c)) { s.cancelAll with waitLeft := 0, lastDir := none, sched := .idle }
  /-- a builder call, or a CANCEL of a tag that is not queued (R111, R112, R144) -/
  | builtOnly (w : PortWord) (b : Option (List Byte)) : Reaction s (.word w) { s with built := b }
  /-- an offered reply (R113) -/
  | replied (w : PortWord) {v t : State} (b : List Byte) (hv : Relation.ReflTransGen TakesOn s v)
      (ht : Response v (.bytes b) t) : Reaction s (.word w) t
  /-- a response of the transport -/
  | responded {r : BusRsp} {t : State} (ht : Response s r t) : Reaction s (.rsp r) t
  /-- a tick with the bus free, which leaves `n` ticks of the delay (R140) -/
  | tickedFree (n : Nat) (hs : s.sched ≠ .dispatching) (hn : n ≤ s.waitLeft) :
      Reaction s .tick ({ s.emit .ticked with waitLeft := n } : State).settle
  /-- a tick that no timer counts (R143) -/
  | tickedUntimed (hs : s.sched = .dispatching) : Reaction s .tick (s.emit .ticked)
  /-- a tick of the timeout timer, which goes on (R176) -/
  | tickedTimed (c : Cur) (hs : s.sched = .dispatching) (hc : s.cur = some c) (ht : c.timed = true)
      (hleft : 1 < s.toLeft) : Reaction s .tick { s.emit .ticked with toLeft := s.toLeft - 1 }
  /-- the tick that ends the operation with `Timeout` (R176) -/
  | timedOut (c : Cur) (hs : s.sched = .dispatching) (hc : s.cur = some c) (ht : c.timed = true) :
      Reaction s .tick
        { s with
          toLeft := 0
          cur := some { c with phase := .phDrain }
          trace := (s.trace ++ [.ticked]) ++ [.completed (.plain c.entry.tag .timeout)] }
  /-- a reset with legal straps (R220) -/
  | hardReset (hl : s.straps.sample.Legal) :
      Reaction s .hardReset
        { State.reset with
          params := s.params
          straps := s.straps
          cfg := s.straps.sample
          inputs := s.inputs
          trace := s.trace ++ [.hardReset] }
  /-- the events of one cycle are put in order (R14) -/
  | ordered (c : Coincident) : Reaction s (.coincident c) { s with inputs := c.inOrder ++ s.inputs }

theorem reaction_of_accept {s t : State} {c : CmdWord} {e : Entry} (hmade : CmdWord.Makes c s.cfg.addr e)
    (htag : c.tag < 2 ^ s.params.tagW) (h : s.accept e = .next t) : Reaction s (.word (.cmd c)) t := by
  obtain ⟨n, hn, hroom, rfl⟩ := State.accept_next h
  exact .accepted c e n hmade htag hn hroom

theorem reaction_of_execCancel {s t : State} {c : CmdWord} (hop : c.op = 2) (h : execCancel c.tag s = .next t) :
    Reaction s (.word (.cmd c)) t := by
  unfold execCancel at h
  split at h <;> cases h
  · rename_i hany
    obtain ⟨x, hx, hxt⟩ := List.any_eq_true.mp hany
    obtain ⟨e, pre, post, hpre, he, hq, herase⟩ := List.exists_of_eraseP (p := fun e => e.tag == c.tag) hx hxt
    rw [herase]
    exact .cancelled c pre e post hop hq (by simpa using he) (by simpa using hpre)
  · exact .builtOnly _ s.built

theorem reaction_of_execSchedReset {s t : State} {c : CmdWord} (hop : c.op = 3) (h : execSchedReset s = .next t) :
    Reaction s (.word (.cmd c)) t := by
  unfold execSchedReset at h
  split at h <;> cases h
  · rename_i hs; exact .emptiedWaiting c hop hs
  · rename_i hs; exact .emptied c hop hs

/-- A command word is one of the four host commands (R80). -/
theorem reaction_of_cmd {s t : State} {c : CmdWord} (h : runWord (.cmd c) s = .next t) :
    Reaction s (.word (.cmd c)) t := by
  obtain ⟨i, hd, hwf, hi⟩ := runWord_next h
  have hdecode : decodeCmd c = i := by simpa [decode] using hd
  subst hdecode
  unfold decodeCmd at hi hwf
  split at hi
  · rename_i hop
    exact reaction_of_accept (.inl ⟨hop, rfl⟩) (by simpa [hop, Instr.wf] using hwf) hi
  split at hi
  · rename_i hop
    exact reaction_of_accept (.inr ⟨hop, rfl⟩) (by simpa [hop, Instr.wf] using hwf) hi
  split at hi
  · rename_i hop; exact reaction_of_execCancel hop hi
  · rename_i h0 h1 h2
    have hop : ∀ op : BitVec 2, op ≠ 0 → op ≠ 1 → op ≠ 2 → op = 3 := by decide
    exact reaction_of_execSchedReset (hop c.op h0 h1 h2) hi

theorem decodeFrame_builder {addr : BitVec 7} {bs : List Byte} {i : Instr} (h : decodeFrame addr bs = .ok i) :
    (∃ control value, i = .wrframe control value) ∨ ∃ control, i = .rdreq control := by
  unfold decodeFrame at h
  split at h
  · repeat (split at h; · cases h)
    cases h
    exact .inl ⟨_, _, rfl⟩
  · repeat (split at h; · cases h)
    cases h
    exact .inr ⟨_, rfl⟩
  · cases h

theorem reaction_of_frame {s t : State} {bs : List Byte} (h : runWord (.frame bs) s = .next t) :
    Reaction s (.word (.frame bs)) t := by
  obtain ⟨i, hd, -, hi⟩ := runWord_next h
  obtain ⟨control, value, rfl⟩ | ⟨control, rfl⟩ := decodeFrame_builder hd
  · cases hi; exact .builtOnly _ _
  · cases hi; exact .builtOnly _ _

theorem reaction_of_reply {s t : State} {bs : List Byte} (h : runWord (.reply bs) s = .next t) :
    Reaction s (.word (.reply bs)) t := by
  obtain ⟨i, hd, -, hi⟩ := runWord_next h
  simp only [decode] at hd
  unfold decodeReply at hd
  split at hd
  · split at hd <;> cases hd
    obtain ⟨v, b, hv, ht⟩ := State.offer_next 2 _ hi
    exact .replied _ b hv ht
  · cases hd

/-! ### What an owed transport request can do (R130) -/

/-- The urgent work of the engine on the bus: the dispatch of the head, or the next read of a follow-up. -/
inductive Owed (s : State) : State → Prop
  /-- the head of the queue goes to the bus (R135, R141) -/
  | dispatched {e : Entry} {q : List Entry} (hp : s.atDispatchPoint = true) (hq : s.queue = e :: q) :
      Owed s (({ s with queue := q }).dispatch e)
  /-- the follow-up in flight asks for its next bytes (R170, R171) -/
  | nextRead {c : Cur} {ph : Phase} {n : Nat} (h : s.owedRead = some (c, ph, n)) : Owed s (s.nextRead c ph n)

theorem State.dueRequest_some {s : State} {w : PortWord} (h : s.dueRequest = some w) :
    (s.atDispatchPoint = true ∧ ∃ e q, s.queue = e :: q ∧ w = e.request) ∨
    (∃ c ph n, s.owedRead = some (c, ph, n) ∧ w = (BusReq.busRead n).word) := by
  unfold State.dueRequest at h
  split at h
  · rename_i hp
    split at h
    · rename_i e q hq; exact .inl ⟨hp, e, q, hq, by simpa using h.symm⟩
    · cases h
  · split at h
    · rename_i c ph n hr; exact .inr ⟨c, ph, n, hr, by simpa using h.symm⟩
    · cases h

theorem Entry.request_busReq (e : Entry) : ∃ kind n data, e.request = .busReq kind n data := by
  unfold Entry.request
  split <;> exact ⟨_, _, _, rfl⟩

theorem decodeBusReq_request {kind : BitVec 1} {n : Nat} {data : List Byte} {i : Instr}
    (h : decodeBusReq kind n data = .ok i) : i = .busWrite data ∨ i = .busRead n := by
  unfold decodeBusReq at h
  split at h
  · repeat (split at h; · cases h)
    cases h
    exact .inl rfl
  · repeat (split at h; · cases h)
    cases h
    exact .inr rfl

theorem owed_of_execBusWrite {s t : State} {data : List Byte} (h : execBusWrite data s = .next t) : Owed s t := by
  unfold execBusWrite at h
  split at h <;> cases h
  rename_i hd
  obtain ⟨hp, e, q, hq, -⟩ | ⟨c, ph, n, -, hw⟩ := State.dueRequest_some hd
  · rw [State.dispatchHead_cons s e q hq]
    exact .dispatched hp hq
  · simp [BusReq.word] at hw

theorem owed_of_execBusRead {s t : State} {n : Nat} (h : execBusRead n s = .next t) : Owed s t := by
  unfold execBusRead at h
  split at h
  · rename_i hd
    split at h <;> cases h
    · rename_i hr; exact .nextRead hr
    · rename_i hr
      obtain ⟨hp, e, q, hq, -⟩ | ⟨c, ph, k, hk, -⟩ := State.dueRequest_some hd
      · rw [State.dispatchHead_cons s e q hq]
        exact .dispatched hp hq
      · simp [hr] at hk
  · cases h

theorem owed_of_busReq {s t : State} {kind : BitVec 1} {n : Nat} {data : List Byte}
    (h : runWord (.busReq kind n data) s = .next t) : Owed s t := by
  obtain ⟨i, hd, -, hi⟩ := runWord_next h
  obtain rfl | rfl := decodeBusReq_request hd
  · exact owed_of_execBusWrite hi
  · exact owed_of_execBusRead hi

theorem owed_of_dueRequest {s t : State} {w : PortWord} (hw : s.dueRequest = some w) (h : runWord w s = .next t) :
    Owed s t := by
  obtain ⟨-, e, q, -, rfl⟩ | ⟨c, ph, n, -, rfl⟩ := State.dueRequest_some hw
  · obtain ⟨kind, n, data, he⟩ := e.request_busReq
    exact owed_of_busReq (he ▸ h)
  · exact owed_of_busReq h

/-- The environment cannot have a transport request run that the block does not owe (R130). -/
theorem not_owed {s t : State} (hd : s.dueRequest = none) : ¬ Owed s t := by
  rintro (⟨hp, hq⟩ | hr)
  · simp [State.dueRequest, hp, hq] at hd
  · have hp : s.atDispatchPoint = false := by
      unfold State.owedRead at hr
      split at hr
      · rename_i hs _; simp [State.atDispatchPoint, hs]
      · cases hr
    simp [State.dueRequest, hp, hr] at hd

/-! ### What a step can do -/

theorem reaction_of_react {s t : State} {e : Input} (hd : s.dueRequest = none) (h : react e s = .next t) :
    Reaction s e t := by
  obtain ⟨w, rfl, h⟩ | ⟨r, rfl, h⟩ | ⟨rfl, h⟩ | ⟨rfl, h⟩ | ⟨c, rfl, rfl⟩ := react_next h
  · cases w with
    | cmd c => exact reaction_of_cmd h
    | frame bs => exact reaction_of_frame h
    | reply bs => exact reaction_of_reply h
    | busReq kind n data => exact absurd (owed_of_busReq h) (not_owed hd)
  · exact .responded (State.response_of_respond h)
  · obtain ⟨hs, rfl⟩ | ⟨hs, rfl⟩ | ⟨hs, c, hc, ⟨ht, rfl⟩ | ⟨-, rfl⟩⟩ := State.tick_next h
    · exact .tickedFree s.waitLeft (by simp [hs]) le_rfl
    · exact .tickedFree (s.waitLeft - 1) (by simp [hs]) (Nat.sub_le ..)
    · obtain ⟨hleft, h'⟩ | ⟨-, h'⟩ := State.tickTimeout_cases (s.emit .ticked) c <;> rw [h']
      · exact .tickedTimed c hs hc ht hleft
      · exact .timedOut c hs hc ht
    · exact .tickedUntimed hs
  · obtain ⟨hl, rfl⟩ := State.hardReset_next h
    exact .hardReset hl
  · exact .ordered c

/-- What a step can do: the urgent work of the engine first (R13), else the reaction to the oldest event (R12). -/
inductive Turn (s : State) : State → Prop
  /-- a request that the block owed is emitted -/
  | owed {t : State} (h : Owed s t) : Turn s t
  /-- the delay has run out (R141) -/
  | expired (hs : s.sched = .waiting) (h0 : s.waitLeft = 0) : Turn s s.expireToIdle
  /-- no event is pending -/
  | unchanged : Turn s s
  /-- an event is taken -/
  | reacted {e : Input} {rest : List Input} {t : State} (hd : s.dueRequest = none) (hi : s.inputs = e :: rest)
      (h : Reaction { s with inputs := rest } e t) : Turn s t

theorem step_turn {s t : State} (h : step s = .next t) : Turn s t := by
  obtain ⟨w, hw, h⟩ | ⟨-, hs, h0, rfl⟩ | ⟨-, -, rfl⟩ | ⟨hd, e, rest, hi, h⟩ := step_next h
  · exact .owed (owed_of_dueRequest hw h)
  · exact .expired hs h0
  · exact .unchanged
  · exact .reacted hd hi (reaction_of_react (s := { s with inputs := rest }) hd h)

/-- From a state that meets the invariant nothing is urgent, so a step reacts to an event or changes nothing. -/
theorem State.Inv.step_reaction {s t : State} (hinv : s.Inv) (h : step s = .next t) :
    t = s ∨ ∃ e rest, s.inputs = e :: rest ∧ Reaction { s with inputs := rest } e t := by
  cases step_turn h with
  | owed ho => exact absurd ho (not_owed hinv.dueRequest_eq_none)
  | expired hs h0 => exact absurd ⟨hs, h0⟩ hinv.not_expired
  | unchanged => exact .inl rfl
  | reacted _ hi hr => exact .inr ⟨_, _, hi, hr⟩

end Sys2Proof.Machine
end

section
/-!
PROOFS. The straps, the state after reset and the status outputs (`10_state.md` R21, R32, R38), and that only
`HardReset` changes the configuration.
-/

namespace Sys2Proof.Machine

/-! ### Straps, reset and status outputs -/

/-- Settles O36: a strap outside its range makes the sampled configuration illegal. -/
theorem illegalStrapsAreRefused : Obligations.IllegalStrapsAreRefused := by
  intro s h
  refine if_neg ?_
  rintro ⟨htimeout, hlen⟩
  simp only [Straps.sample] at htimeout hlen
  rcases h with h | h
  · omega
  · have hlt : s.straps.maxDataLen.toNat < 8 := h
    omega

/-- Settles O37: the values are those of `State.reset`. -/
theorem resetStateIsR38 : Obligations.ResetStateIsR38 := by
  refine ⟨rfl, rfl, rfl, rfl, rfl, rfl, rfl, rfl, rfl, rfl, rfl, rfl, rfl, rfl, rfl, rfl, ?_, rfl, rfl, rfl⟩
  decide

/-- `cmd_ready` tells that the occupancy has a value and leaves room (R132). -/
theorem State.cmdReady_iff (s : State) : s.cmdReady = true ↔ ∃ n, s.occupancy = some n ∧ n < s.params.queueDepth := by
  unfold State.cmdReady
  cases s.occupancy <;> simp

theorem State.occupancy_of_free {s : State} (hs : s.sched ≠ .dispatching) : s.occupancy = some s.queue.length := by
  unfold State.occupancy
  cases h : s.sched <;> simp_all

theorem State.occupancy_of_onBus {s : State} {c : Cur} (hs : s.sched = .dispatching) (hc : s.cur = some c) :
    s.occupancy = some (s.queue.length + if c.entry.kind = .txRdreq then 1 else 0) := by
  simp [State.occupancy, hs, hc]

/-- Settles O57: each output is read off the scheduler state or, for `cmd_ready`, off the occupancy. -/
theorem statusOutputsFollowTheState : Obligations.StatusOutputsFollowTheState := by
  refine ⟨fun s => ⟨by simp [State.idleOut], by simp [State.busyBus], fun hs => ?_, fun c hs hc => ?_⟩, ?_⟩
  · simp [State.cmdReady_iff, State.occupancy_of_free hs]
  · simp [State.cmdReady_iff, State.occupancy_of_onBus hs hc]
  · decide

/-! ### The configuration (R21) -/

/-- The parameters, the straps and the configuration are the same. -/
def SameConfig (s t : State) : Prop := t.params = s.params ∧ t.straps = s.straps ∧ t.cfg = s.cfg

theorem SameConfig.trans {s t u : State} (h : SameConfig s t) (h' : SameConfig t u) : SameConfig s u := by
  obtain ⟨hp, hst, hc⟩ := h
  obtain ⟨hp', hst', hc'⟩ := h'
  exact ⟨hp'.trans hp, hst'.trans hst, hc'.trans hc⟩

theorem SameConfig.settle {s u : State} (h : SameConfig s u) : SameConfig s u.settle :=
  h.trans ⟨by simp, by simp, by simp⟩

theorem ReadsOn.sameConfig {s u : State} {c : Cur} (h : ReadsOn s c u) : SameConfig s u := by
  cases h <;> exact ⟨rfl, rfl, rfl⟩

theorem Answered.sameConfig {s u : State} {c : Cur} {r : BusRsp} (h : Answered s c r u) : SameConfig s u := by
  cases h with
  | completed => exact ⟨rfl, rfl, rfl⟩
  | acknowledged => exact ⟨rfl, rfl, rfl⟩
  | drained => exact ⟨rfl, rfl, rfl⟩
  | readsOn h => exact h.sameConfig

theorem Response.sameConfig {s t : State} {r : BusRsp} (h : Response s r t) : SameConfig s t := by
  obtain ⟨-, -, hu⟩ := h
  exact SameConfig.settle (s := s) hu.sameConfig

theorem sameConfig_of_takesOn {s v : State} (h : Relation.ReflTransGen TakesOn s v) : SameConfig s v := by
  induction h with
  | refl => exact ⟨rfl, rfl, rfl⟩
  | tail _ hon ih =>
    obtain ⟨-, c, -, hon⟩ := hon
    exact ih.trans hon.sameConfig

theorem Owed.sameConfig {s t : State} (h : Owed s t) : SameConfig s t := by
  cases h with
  | dispatched => exact ⟨by simp, by simp, by simp⟩
  | nextRead => exact ⟨rfl, rfl, rfl⟩

/-- No reaction but that to `HardReset` changes the configuration. -/
theorem Reaction.sameConfig {s t : State} {e : Input} (h : Reaction s e t) (he : e ≠ .hardReset) :
    SameConfig s t := by
  cases h with
  | accepted => exact SameConfig.settle ⟨rfl, rfl, rfl⟩
  | emptied => exact ⟨by simp, by simp, by simp⟩
  | emptiedWaiting => exact ⟨by simp, by simp, by simp⟩
  | replied w b hv ht => exact (sameConfig_of_takesOn hv).trans ht.sameConfig
  | responded ht => exact ht.sameConfig
  | tickedFree => exact SameConfig.settle ⟨rfl, rfl, rfl⟩
  | hardReset => exact absurd rfl he
  | cancelled | builtOnly | tickedUntimed | tickedTimed | timedOut | ordered => exact ⟨rfl, rfl, rfl⟩

/-- Settles O38: what `Turn` lists keeps the configuration, but for the reaction to a `HardReset`. -/
theorem configurationIsConstant : Obligations.ConfigurationIsConstant := by
  intro s t h
  have of_same : SameConfig s t → t.params = s.params ∧ t.straps = s.straps ∧
      (t.cfg = s.cfg ∨ (∃ rest, s.inputs = .hardReset :: rest) ∧ t.cfg = s.straps.sample) :=
    fun ⟨hp, hst, hc⟩ => ⟨hp, hst, .inl hc⟩
  cases step_turn h with
  | owed ho => exact of_same ho.sameConfig
  | expired => exact of_same ⟨rfl, rfl, rfl⟩
  | unchanged => exact of_same ⟨rfl, rfl, rfl⟩
  | @reacted e rest _ hd hi hr =>
    by_cases he : e = .hardReset
    · subst he
      cases hr
      exact ⟨rfl, rfl, .inr ⟨⟨rest, hi⟩, rfl⟩⟩
    · exact of_same (hr.sameConfig he)

end Sys2Proof.Machine
end

section
/-!
PROOFS. The invariant of the states between events (`10_state.md` R37 i to iv, R29) holds at reset and every
step keeps it. A reaction first meets `State.PreInv`, the invariant with an internal transition possibly still
to run, and `settle` then establishes the invariant.
-/

namespace Sys2Proof.Machine

/-! ### The invariant before the internal transitions -/

/-- `State.SchedOk` without what the internal transitions establish: in `Idle` the queue may hold entries, and in
`Waiting` the delay may have run out. -/
def State.PreSchedOk (s : State) : Prop :=
  match s.sched with
  | .idle => s.cur = none ∧ s.waitLeft = 0 ∧ s.lastDir = none ∧ s.toLeft = 0 ∧ s.HeadEmpty
  | .dispatching =>
    s.waitLeft = 0 ∧ s.lastDir = none ∧
      ∃ c, s.cur = some c ∧ c.entry.Wf s.params s.cfg.addr ∧ s.CurOk c
  | .waiting => s.cur = none ∧ s.toLeft = 0 ∧ s.HeadEmpty ∧ ∃ d, s.lastDir = some d ∧ s.waitLeft ≤ s.cfg.delayAfter d

/-- The invariant in the middle of a reaction, where an internal transition may still be enabled. -/
structure State.PreInv (s : State) : Prop where
  /-- the structural parameters are legal (R7) -/
  params : s.params.Legal
  /-- the configuration is legal (R21) -/
  cfg : s.cfg.Legal
  /-- every queued entry is one that a rule makes (R24) -/
  entries : ∀ e ∈ s.queue, e.Wf s.params s.cfg.addr
  /-- the queue never overflows, the reserved slot included (R37 iv) -/
  room : ∀ n, s.occupancy = some n → n ≤ s.params.queueDepth
  /-- the tail registers are empty (R29) -/
  tail : s.TailEmpty
  /-- the registers agree with the scheduler state -/
  sched : s.PreSchedOk

/-- Quiescence is exactly what the invariant adds. -/
theorem State.schedOk_iff (s : State) : s.SchedOk ↔ s.PreSchedOk ∧ s.Quiescent := by
  unfold State.SchedOk State.PreSchedOk State.Quiescent
  cases hs : s.sched with
  | idle => simp [and_comm]
  | dispatching => simp
  | waiting =>
    simp only [reduceCtorEq, false_imp_iff, true_and, forall_true_left]
    constructor
    · rintro ⟨hc, ht, hh, d, hd, hpos, hle⟩
      exact ⟨⟨hc, ht, hh, d, hd, hle⟩, hpos⟩
    · rintro ⟨⟨hc, ht, hh, d, hd, hle⟩, hpos⟩
      exact ⟨hc, ht, hh, d, hd, hpos, hle⟩

theorem State.inv_iff (s : State) : s.Inv ↔ s.PreInv ∧ s.Quiescent := by
  constructor
  · rintro ⟨hp, hg, he, hr, ht, hs⟩
    obtain ⟨hs, hq⟩ := (State.schedOk_iff s).mp hs
    exact ⟨⟨hp, hg, he, hr, ht, hs⟩, hq⟩
  · rintro ⟨⟨hp, hg, he, hr, ht, hs⟩, hq⟩
    exact ⟨hp, hg, he, hr, ht, (State.schedOk_iff s).mpr ⟨hs, hq⟩⟩

theorem State.Inv.preInv {s : State} (h : s.Inv) : s.PreInv := ((State.inv_iff s).mp h).1

theorem State.quiescent_of_dispatching {s : State} (h : s.sched = .dispatching) : s.Quiescent := by
  simp [State.Quiescent, h]

theorem State.PreInv.inv_of_dispatching {s : State} (h : s.PreInv) (hs : s.sched = .dispatching) : s.Inv :=
  (State.inv_iff s).mpr ⟨h, State.quiescent_of_dispatching hs⟩

/-- With the bus free nothing of a transaction is left. -/
theorem State.PreInv.free {s : State} (h : s.PreInv) (hs : s.sched ≠ .dispatching) :
    s.cur = none ∧ s.toLeft = 0 ∧ s.HeadEmpty := by
  have hsched := h.sched
  unfold State.PreSchedOk at hsched
  split at hsched
  · obtain ⟨hc, -, -, ht, hh⟩ := hsched
    exact ⟨hc, ht, hh⟩
  · contradiction
  · obtain ⟨hc, ht, hh, -⟩ := hsched
    exact ⟨hc, ht, hh⟩

theorem State.PreInv.onBus {s : State} {c : Cur} (h : s.PreInv) (hs : s.sched = .dispatching) (hc : s.cur = some c) :
    s.waitLeft = 0 ∧ s.lastDir = none ∧ c.entry.Wf s.params s.cfg.addr ∧ s.CurOk c := by
  have hsched := h.sched
  simp only [State.PreSchedOk, hs] at hsched
  obtain ⟨hw, hl, c', hc', hwf, hok⟩ := hsched
  obtain rfl : c' = c := Option.some.inj (hc'.symm.trans hc)
  exact ⟨hw, hl, hwf, hok⟩

theorem State.PreInv.onBus_cur {s : State} (h : s.PreInv) (hs : s.sched = .dispatching) : ∃ c, s.cur = some c := by
  have hsched := h.sched
  simp only [State.PreSchedOk, hs] at hsched
  obtain ⟨-, -, c, hc, -⟩ := hsched
  exact ⟨c, hc⟩

/-- The queue itself never overflows. -/
theorem State.PreInv.queue_le {s : State} (h : s.PreInv) : s.queue.length ≤ s.params.queueDepth := by
  by_cases hs : s.sched = .dispatching
  · obtain ⟨c, hc⟩ := h.onBus_cur hs
    exact (Nat.le_add_right _ _).trans (h.room _ (State.occupancy_of_onBus hs hc))
  · exact h.room _ (State.occupancy_of_free hs)

/-! ### Building `State.PreInv` for a state on the bus and off it -/

theorem State.PreInv.mk_onBus {s : State} {c : Cur} (hp : s.params.Legal) (hg : s.cfg.Legal)
    (he : ∀ e ∈ s.queue, e.Wf s.params s.cfg.addr)
    (hr : s.queue.length + (if c.entry.kind = .txRdreq then 1 else 0) ≤ s.params.queueDepth) (ht : s.TailEmpty)
    (hs : s.sched = .dispatching) (hc : s.cur = some c) (hw : s.waitLeft = 0) (hl : s.lastDir = none)
    (hwf : c.entry.Wf s.params s.cfg.addr) (hok : s.CurOk c) : s.PreInv := by
  refine ⟨hp, hg, he, ?_, ht, ?_⟩
  · intro n hn
    rw [State.occupancy_of_onBus hs hc, Option.some.injEq] at hn
    exact hn ▸ hr
  · simp only [State.PreSchedOk, hs]
    exact ⟨hw, hl, c, hc, hwf, hok⟩

/-- A transaction that stays on the bus keeps `State.PreInv` where its registers agree with its phase: neither the
queue nor the entry in flight changes. -/
theorem State.PreInv.stay {s t : State} {c : Cur} {ph : Phase} (h : s.PreInv) (hs : s.sched = .dispatching)
    (hc : s.cur = some c) (hp : t.params = s.params) (hg : t.cfg = s.cfg) (hq : t.queue = s.queue)
    (hs' : t.sched = s.sched) (hw : t.waitLeft = s.waitLeft) (hl : t.lastDir = s.lastDir) (ht : t.TailEmpty)
    (hc' : t.cur = some { c with phase := ph }) (hok : t.CurOk { c with phase := ph }) : t.PreInv := by
  obtain ⟨hw0, hl0, hwf, -⟩ := h.onBus hs hc
  have hroom := h.room _ (State.occupancy_of_onBus hs hc)
  exact .mk_onBus (hp ▸ h.params) (hg ▸ h.cfg) (by rw [hq, hp, hg]; exact h.entries) (by rw [hq, hp]; exact hroom) ht
    (hs'.trans hs) hc' (hw.trans hw0) (hl.trans hl0) (by rw [hp, hg]; exact hwf) hok

/-- The end of a transaction leaves nothing of it, so only the queue has to be looked at. -/
theorem State.preInv_finishTransaction {s : State} (c : Cur) (hp : s.params.Legal) (hg : s.cfg.Legal)
    (he : ∀ e ∈ s.queue, e.Wf s.params s.cfg.addr) (hr : s.queue.length ≤ s.params.queueDepth) :
    (s.finishTransaction c).PreInv := by
  refine ⟨hp, hg, he, ?_, ⟨rfl, rfl, rfl⟩, ⟨rfl, rfl, ⟨rfl, rfl, rfl⟩, c.dir, rfl, le_rfl⟩⟩
  intro n hn
  rw [State.occupancy_of_free (by simp), Option.some.injEq] at hn
  exact hn ▸ hr

/-- The invariant does not speak of the model's own fields. -/
theorem State.PreInv.ofOwnFields {s : State} (h : s.PreInv) (inputs : List Input) (built : Option (List Byte))
    (trace : List Obs) : ({ s with inputs := inputs, built := built, trace := trace } : State).PreInv :=
  ⟨h.params, h.cfg, h.entries, h.room, h.tail, h.sched⟩

theorem State.PreInv.emit {s : State} (h : s.PreInv) (o : Obs) : (s.emit o).PreInv := h.ofOwnFields _ _ _

theorem State.Inv.ofOwnFields {s : State} (h : s.Inv) (inputs : List Input) (built : Option (List Byte))
    (trace : List Obs) : ({ s with inputs := inputs, built := built, trace := trace } : State).Inv :=
  ⟨h.params, h.cfg, h.entries, h.room, h.tail, h.sched⟩

/-! ### The internal transitions establish the invariant -/

/-- A dispatch of the head starts its transaction with fresh registers (R136, R169). -/
theorem State.PreInv.dispatch {s : State} {e : Entry} {q : List Entry} (h : s.PreInv) (hs : s.sched ≠ .dispatching)
    (hw : s.waitLeft = 0) (hq : s.queue = e :: q) : (({ s with queue := q }).dispatch e).PreInv := by
  obtain ⟨-, hto, hhead⟩ := h.free hs
  have hroom := h.queue_le
  have hentries := h.entries
  rw [hq, List.length_cons] at hroom
  rw [hq, List.forall_mem_cons] at hentries
  obtain ⟨hwf, hentries⟩ := hentries
  have hroom' : q.length + (if e.kind = .txRdreq then 1 else 0) ≤ s.params.queueDepth := by split <;> omega
  by_cases hk : e.kind = .txRdfollow
  · rw [State.dispatch_of_follow _ _ hk]
    exact .mk_onBus h.params h.cfg hentries hroom' h.tail rfl rfl hw rfl hwf ⟨hk, h.cfg.1, le_rfl, hhead⟩
  · rw [State.dispatch_of_write _ _ hk]
    exact .mk_onBus h.params h.cfg hentries hroom' h.tail rfl rfl hw rfl hwf ⟨hk, hto, hhead⟩

/-- The expiry of the delay leaves nothing of it (R141). -/
theorem State.PreInv.expireToIdle {s : State} (h : s.PreInv) (hs : s.sched = .waiting) (hw : s.waitLeft = 0) :
    s.expireToIdle.PreInv := by
  have hfree : s.sched ≠ .dispatching := by simp [hs]
  obtain ⟨hc, hto, hhead⟩ := h.free hfree
  have hocc := State.occupancy_of_free hfree
  exact ⟨h.params, h.cfg, h.entries, fun n hn => h.room n (hocc.trans hn), h.tail, hc, hw, rfl, hto, hhead⟩

theorem State.PreInv.waitLeft_of_atDispatchPoint {s : State} (h : s.PreInv) (hp : s.atDispatchPoint = true) :
    s.sched ≠ .dispatching ∧ s.waitLeft = 0 := by
  have hsched := h.sched
  cases hs : s.sched <;> simp_all [State.atDispatchPoint, State.PreSchedOk]

theorem State.PreInv.settle {s : State} (h : s.PreInv) : s.settle.Inv := by
  rw [State.inv_iff]
  refine ⟨?_, s.settle_quiescent⟩
  obtain ⟨-, ht⟩ | ⟨hs, hw, -, ht⟩ | ⟨e, q, hp, hq, ht⟩ := State.settle_cases s <;> rw [ht]
  · exact h
  · exact h.expireToIdle hs hw
  · obtain ⟨hs, hw⟩ := h.waitLeft_of_atDispatchPoint hp
    exact h.dispatch hs hw hq

/-! ### Responses -/

theorem Cur.followUp_wf {c : Cur} {p : Config.Params} {addr : BitVec 7} (h : c.entry.Wf p addr) :
    c.followUp.Wf p addr :=
  ⟨h.1, rfl⟩

/-- A follow-up that goes on has written the byte it has just taken, and its timer runs on (R170, R171). -/
theorem ReadsOn.preInv {s u : State} {c : Cur} (h : ReadsOn s c u) (hpre : s.PreInv) (hs : s.sched = .dispatching)
    (hc : s.cur = some c) : u.PreInv := by
  obtain ⟨-, -, -, hok⟩ := hpre.onBus hs hc
  cases h with
  | ack a hph ha =>
    simp only [State.CurOk, hph] at hok
    obtain ⟨hk, hpos, hle, -, hlen, hdl⟩ := hok
    have hseed : a = seed s.cfg.addr .read := by simpa [ackAccepted] using ha
    exact hpre.stay hs hc rfl rfl rfl rfl rfl rfl hpre.tail rfl ⟨hk, hpos, hle, congrArg some hseed, hlen, hdl⟩
  | len l hph hl =>
    simp only [State.CurOk, hph] at hok
    obtain ⟨hk, hpos, hle, hack, -⟩ := hok
    exact hpre.stay hs hc rfl rfl rfl rfl rfl rfl hpre.tail rfl ⟨hk, hpos, hle, hack, l, rfl, rfl, hl⟩

theorem Answered.preInv {s u : State} {c : Cur} {r : BusRsp} (h : Answered s c r u) (hpre : s.PreInv)
    (hs : s.sched = .dispatching) (hc : s.cur = some c) : u.PreInv := by
  cases h with
  | completed k =>
    exact State.preInv_finishTransaction (s := s.complete k) c hpre.params hpre.cfg hpre.entries hpre.queue_le
  | drained => exact State.preInv_finishTransaction c hpre.params hpre.cfg hpre.entries hpre.queue_le
  | readsOn hon => exact hon.preInv hpre hs hc
  | acknowledged hph hk hr =>
    obtain ⟨-, -, hwf, -⟩ := hpre.onBus hs hc
    have hroom := hpre.room _ (State.occupancy_of_onBus hs hc)
    rw [if_pos hk] at hroom
    refine State.preInv_finishTransaction (s := s.enqueue c.followUp) c hpre.params hpre.cfg ?_ (by simpa using hroom)
    intro e he
    rcases List.mem_append.mp he with he | he
    · exact hpre.entries e he
    · exact List.mem_singleton.mp he ▸ Cur.followUp_wf hwf

theorem Response.inv {s t : State} {r : BusRsp} (h : Response s r t) (hpre : s.PreInv) : t.Inv := by
  obtain ⟨hs, hc, hu⟩ := h
  exact (hu.preInv (hpre.emit .responded) hs hc).settle

theorem preInv_of_takesOn {s v : State} (h : Relation.ReflTransGen TakesOn s v) (hpre : s.PreInv) : v.PreInv := by
  induction h with
  | refl => exact hpre
  | tail _ hon ih =>
    obtain ⟨hs, c, hc, hon⟩ := hon
    exact hon.preInv (ih.emit .responded) hs hc

/-! ### Commands and ticks -/

/-- The entry of an accepted command is well formed (R24, R160, R162). -/
theorem CmdWord.Makes.wf {c : CmdWord} {p : Config.Params} {addr : BitVec 7} {e : Entry} (h : CmdWord.Makes c addr e)
    (htag : c.tag < 2 ^ p.tagW) : e.Wf p addr := by
  obtain ⟨-, rfl⟩ | ⟨-, rfl⟩ := h
  · exact ⟨htag, _, rfl⟩
  · exact ⟨htag, rfl⟩

/-- An entry may join the tail where the occupancy leaves room for it (R132, R133). -/
theorem State.PreInv.enqueue {s : State} {e : Entry} {n : Nat} (h : s.PreInv) (hn : s.occupancy = some n)
    (hroom : n < s.params.queueDepth) (hwf : e.Wf s.params s.cfg.addr) : (s.enqueue e).PreInv := by
  refine ⟨h.params, h.cfg, ?_, ?_, h.tail, h.sched⟩
  · intro x hx
    rcases List.mem_append.mp hx with hx | hx
    · exact h.entries x hx
    · exact List.mem_singleton.mp hx ▸ hwf
  · intro m hm
    show m ≤ s.params.queueDepth
    by_cases hs : s.sched = .dispatching
    · obtain ⟨c, hc⟩ := h.onBus_cur hs
      rw [State.occupancy_of_onBus (s := s) hs hc, Option.some.injEq] at hn
      rw [State.occupancy_of_onBus (s := s.enqueue e) hs hc, Option.some.injEq] at hm
      simp only [State.enqueue_queue, List.length_append, List.length_singleton] at hm
      omega
    · rw [State.occupancy_of_free (s := s) hs, Option.some.injEq] at hn
      rw [State.occupancy_of_free (s := s.enqueue e) hs, Option.some.injEq] at hm
      simp only [State.enqueue_queue, List.length_append, List.length_singleton] at hm
      omega

/-- Entries may leave a quiescent queue: what the invariant says of the queue, it says of every part of it. -/
theorem State.Inv.ofSublist {s : State} {q : List Entry} (h : s.Inv) (hq : q.Sublist s.queue) :
    ({ s with queue := q } : State).Inv := by
  obtain ⟨hpre, hidle, hwait⟩ := (State.inv_iff s).mp h
  refine (State.inv_iff _).mpr ⟨⟨h.params, h.cfg, fun e he => h.entries e (hq.subset he), ?_, h.tail, hpre.sched⟩,
    fun hs => List.eq_nil_of_sublist_nil (hidle hs ▸ hq), hwait⟩
  intro n hn
  show n ≤ s.params.queueDepth
  have hlen := hq.length_le
  by_cases hs : s.sched = .dispatching
  · obtain ⟨c, hc⟩ := hpre.onBus_cur hs
    have hroom := h.room _ (State.occupancy_of_onBus hs hc)
    rw [State.occupancy_of_onBus (s := { s with queue := q }) hs hc, Option.some.injEq] at hn
    simp only at hn
    omega
  · have hroom := h.room _ (State.occupancy_of_free hs)
    rw [State.occupancy_of_free (s := { s with queue := q }) hs, Option.some.injEq] at hn
    simp only at hn
    omega

theorem State.Inv.cancelAll {s : State} (h : s.Inv) : s.cancelAll.Inv := by
  rw [State.cancelAll_eq]
  exact (h.ofSublist (List.nil_sublist _)).ofOwnFields s.inputs s.built _

/-- The end of the delay by a SCHED_RESET leads to `Idle` with nothing left of it (R146). -/
theorem State.Inv.toIdle {s : State} (h : s.Inv) (hs : s.sched = .waiting) (hq : s.queue = []) :
    ({ s with waitLeft := 0, lastDir := none, sched := .idle } : State).Inv := by
  have hfree : s.sched ≠ .dispatching := by simp [hs]
  obtain ⟨hc, hto, hhead⟩ := h.preInv.free hfree
  have hocc := State.occupancy_of_free hfree
  exact ⟨h.params, h.cfg, h.entries, fun n hn => h.room n (hocc.trans hn), h.tail, hq, hc, rfl, rfl, hto, hhead⟩

/-- A tick with the bus free only counts the delay down (R140). -/
theorem State.PreInv.tickFree {s : State} {n : Nat} (h : s.PreInv) (hs : s.sched ≠ .dispatching)
    (hn : n ≤ s.waitLeft) : ({ s with waitLeft := n } : State).PreInv := by
  refine ⟨h.params, h.cfg, h.entries, h.room, h.tail, ?_⟩
  have hsched := h.sched
  cases hst : s.sched with
  | dispatching => exact absurd hst hs
  | idle =>
    simp only [State.PreSchedOk, hst] at hsched ⊢
    obtain ⟨hc, hw, hrest⟩ := hsched
    exact ⟨hc, by omega, hrest⟩
  | waiting =>
    simp only [State.PreSchedOk, hst] at hsched ⊢
    obtain ⟨hc, ht, hh, d, hd, hle⟩ := hsched
    exact ⟨hc, ht, hh, d, hd, hn.trans hle⟩

theorem Cur.timed_iff (c : Cur) :
    c.timed = true ↔ c.entry.kind = .txRdfollow ∧ (c.phase = .phAck ∨ c.phase = .phLen ∨ c.phase = .phTail) := by
  simp [Cur.timed, or_assoc]

/-- A tick of the timeout timer that does not end it changes the counter alone (R176). -/
theorem State.PreInv.tickTimed {s : State} {c : Cur} (h : s.PreInv) (hs : s.sched = .dispatching)
    (hc : s.cur = some c) (ht : c.timed = true) (hleft : 1 < s.toLeft) :
    ({ s with toLeft := s.toLeft - 1 } : State).PreInv := by
  obtain ⟨-, -, -, hok⟩ := h.onBus hs hc
  refine h.stay (ph := c.phase) hs hc rfl rfl rfl rfl rfl rfl h.tail hc ?_
  obtain ⟨-, hph | hph | hph⟩ := c.timed_iff.mp ht <;>
  · simp only [State.CurOk, hph] at hok ⊢
    obtain ⟨hk, -, hle, hrest⟩ := hok
    exact ⟨hk, by omega, by omega, hrest⟩

/-- What a timeout leaves on the bus is a follow-up to be drained, with the parser registers as they are (R175,
R176). -/
theorem State.PreInv.timedOut {s : State} {c : Cur} (h : s.PreInv) (hs : s.sched = .dispatching) (hc : s.cur = some c)
    (ht : c.timed = true) : ({ s with toLeft := 0, cur := some { c with phase := .phDrain } } : State).PreInv :=
  h.stay hs hc rfl rfl rfl rfl rfl rfl h.tail rfl ⟨(c.timed_iff.mp ht).1, rfl⟩

/-! ### Reset and step -/

/-- The state after a reset, with whatever straps and parameters are legal (R220). -/
theorem State.inv_ofReset (p : Config.Params) (straps : Straps) (cfg : Cfg) (inputs : List Input) (trace : List Obs)
    (hp : p.Legal) (hg : cfg.Legal) :
    ({ State.reset with
        params := p, straps := straps, cfg := cfg, inputs := inputs, trace := trace } : State).Inv := by
  refine ⟨hp, hg, fun e he => absurd he List.not_mem_nil, ?_, ⟨rfl, rfl, rfl⟩,
    ⟨rfl, rfl, rfl, rfl, rfl, rfl, rfl, rfl⟩⟩
  intro n hn
  rw [State.occupancy_of_free (by simp [State.reset]), Option.some.injEq] at hn
  exact hn ▸ Nat.zero_le _

/-- Settles O46: the suggested parameters and the sampled defaults are legal. -/
theorem resetMeetsTheInvariant : Obligations.ResetMeetsTheInvariant :=
  State.inv_ofReset Config.suggestedParams resetStraps resetStraps.sample [] [] (by decide) (by decide)

theorem Reaction.inv {s t : State} {e : Input} (h : Reaction s e t) (hinv : s.Inv) : t.Inv := by
  have hpre := hinv.preInv
  cases h with
  | accepted c e n hmade htag hn hroom =>
    exact ((hpre.emit _).enqueue (s := s.emit _) hn hroom (hmade.wf htag)).settle
  | cancelled c pre e post hop hq he _ =>
    have hsub : (pre ++ post).Sublist s.queue := hq ▸ (List.sublist_cons_self e post).append_left pre
    exact (hinv.ofSublist hsub).ofOwnFields s.inputs s.built _
  | emptied => exact hinv.cancelAll
  | emptiedWaiting c hop hs => exact hinv.cancelAll.toIdle (by simpa using hs) (by simp)
  | builtOnly w b => exact hinv.ofOwnFields s.inputs b s.trace
  | replied w b hv ht => exact ht.inv (preInv_of_takesOn hv hpre)
  | responded ht => exact ht.inv hpre
  | tickedFree n hs hn => exact ((hpre.emit .ticked).tickFree (s := s.emit .ticked) hs hn).settle
  | tickedUntimed hs => exact (hpre.emit _).inv_of_dispatching hs
  | tickedTimed c hs hc ht hleft =>
    exact ((hpre.emit .ticked).tickTimed (s := s.emit .ticked) hs hc ht hleft).inv_of_dispatching hs
  | timedOut c hs hc ht => exact ((hpre.timedOut hs hc ht).inv_of_dispatching hs).ofOwnFields s.inputs s.built _
  | hardReset hl => exact State.inv_ofReset _ _ _ _ _ hinv.params hl
  | ordered c => exact hinv.ofOwnFields _ s.built s.trace

/-- Settles O47: every reaction keeps the invariant, and from a state that meets it nothing else can happen. -/
theorem everyStepKeepsTheInvariant : Obligations.EveryStepKeepsTheInvariant := by
  intro s t hinv h
  obtain rfl | ⟨e, rest, -, hr⟩ := hinv.step_reaction h
  · exact hinv
  · exact hr.inv (hinv.ofOwnFields rest s.built s.trace)

end Sys2Proof.Machine
end

section
/-!
PROOFS. What completions carry (`10_state.md` R31, R173, R174). One lemma, `Turn.reports`, says which
completions a step can add; both statements read it off.
-/

namespace Sys2Proof.Machine

/-! ### The completions that a change adds -/

/-- Only completions that meet `P` are added to the observation. -/
def Reports (P : Completion → Prop) (s t : State) : Prop :=
  ∃ new, t.trace = s.trace ++ new ∧ ∀ k ∈ completionsOf new, P k

section

variable {P : Completion → Prop} {s t u : State}

theorem Reports.of_trace_eq (h : t.trace = s.trace) : Reports P s t := ⟨[], by simp [h], by simp [completionsOf]⟩

theorem Reports.trans (h : Reports P s t) (h' : Reports P t u) : Reports P s u := by
  obtain ⟨new, ht, hk⟩ := h
  obtain ⟨new', hu, hk'⟩ := h'
  refine ⟨new ++ new', by rw [hu, ht, List.append_assoc], ?_⟩
  intro k hm
  rw [completionsOf_append, List.mem_append] at hm
  exact hm.elim (hk k) (hk' k)

/-- An observation that is no completion reports nothing. -/
theorem Reports.of_silent {o : Obs} (ho : completionsOf [o] = []) (h : t.trace = s.trace ++ [o]) : Reports P s t :=
  ⟨[o], h, by simp [ho]⟩

theorem Reports.of_completed {k : Completion} (hk : P k) (h : t.trace = s.trace ++ [.completed k]) : Reports P s t :=
  ⟨[.completed k], h, by simpa [completionsOf] using hk⟩

theorem State.reports_dispatch (s : State) (e : Entry) : Reports P s (s.dispatch e) := by
  obtain ⟨_, r, -, ht⟩ := State.dispatch_spec s e
  exact .of_silent rfl ht

theorem State.reports_settle (s : State) : Reports P s s.settle := by
  obtain ⟨-, h⟩ | ⟨-, -, -, h⟩ | ⟨e, q, -, -, h⟩ := State.settle_cases s <;> rw [h]
  · exact .of_trace_eq rfl
  · exact .of_trace_eq rfl
  · exact State.reports_dispatch { s with queue := q } e

/-! ### Which completions a step can add -/

/-- The completions that a step from `s` may add: each carries only what its status means, and a value only where
it ends the operation of a transaction on the bus that awaits one of the three reads of a follow-up. -/
def State.MayReport (s : State) (k : Completion) : Prop :=
  k.Meaningful ∧
    (k.Valued → ∃ c, s.cur = some c ∧ c.entry.tag = k.tag ∧ (c.phase = .phAck ∨ c.phase = .phLen ∨ c.phase = .phTail))

theorem State.mayReport_plain (s : State) (tag : Tag) (st : Status) : s.MayReport (.plain tag st) :=
  ⟨Completion.plain_meaningful tag st, fun h => absurd h (Completion.plain_not_valued tag st)⟩

/-- What a transaction that has gone on to a later read reports, it may report as the transaction it was before. -/
theorem TakesOn.mayReport {v : State} {k : Completion} (h : TakesOn s v) (hk : v.MayReport k) : s.MayReport k := by
  obtain ⟨-, c, hc, hon⟩ := h
  refine ⟨hk.1, fun hval => ⟨c, hc, ?_⟩⟩
  obtain ⟨c', hc', htag, -⟩ := hk.2 hval
  cases hon with
  | ack a hph => cases hc'; exact ⟨htag, .inl hph⟩
  | len l hph => cases hc'; exact ⟨htag, .inr (.inl hph)⟩

theorem ReadsOn.reports {c : Cur} (h : ReadsOn s c u) : Reports P s u := by
  cases h with
  | ack => exact .of_silent rfl rfl
  | len => exact .of_silent rfl rfl

theorem Response.reports {r : BusRsp} (h : Response s r t) : Reports s.MayReport s t := by
  obtain ⟨-, hc, hu⟩ := h
  have hresponded : Reports s.MayReport s (s.emit .responded) := .of_silent rfl rfl
  refine (hresponded.trans ?_).trans (State.reports_settle _)
  cases hu with
  | completed k hph htag hk hv =>
    exact .of_completed ⟨hk, fun hval => ⟨_, hc, htag.symm, .inr (.inr (hv hval))⟩⟩ rfl
  | acknowledged => exact .of_trace_eq rfl
  | drained => exact .of_trace_eq rfl
  | readsOn hon => exact hon.reports

theorem reports_of_takesOn {v : State} (h : Relation.ReflTransGen TakesOn s v) (ht : Reports v.MayReport v t) :
    Reports s.MayReport s t := by
  induction h using Relation.ReflTransGen.head_induction_on with
  | refl => exact ht
  | head hon _ ih =>
    obtain ⟨new, htrace, hk⟩ := ih
    have hlater : Reports (State.MayReport _) _ t := ⟨new, htrace, fun k hm => hon.mayReport (hk k hm)⟩
    obtain ⟨-, c, -, hread⟩ := hon
    exact (Reports.of_silent (o := .responded) rfl rfl).trans (hread.reports.trans hlater)

theorem State.reports_cancelAll (s : State) : Reports s.MayReport s s.cancelAll := by
  refine ⟨_, s.cancelAll_trace, fun k hm => ?_⟩
  simp only [completionsOf, List.mem_filterMap, List.mem_map] at hm
  obtain ⟨-, ⟨e, -, rfl⟩, hk⟩ := hm
  cases hk
  exact s.mayReport_plain e.tag .cancelled

theorem Reaction.reports {e : Input} (h : Reaction s e t) : Reports s.MayReport s t := by
  cases h with
  | accepted c e =>
    have haccepted : Reports s.MayReport s ((s.emit (.accepted e.tag)).enqueue e) := .of_silent rfl rfl
    exact haccepted.trans (State.reports_settle _)
  | cancelled c => exact .of_completed (s.mayReport_plain c.tag .cancelled) rfl
  | emptied => exact s.reports_cancelAll
  | emptiedWaiting => exact s.reports_cancelAll
  | builtOnly => exact .of_trace_eq rfl
  | replied w b hv ht => exact reports_of_takesOn hv ht.reports
  | responded ht => exact ht.reports
  | tickedFree n =>
    have hticked : Reports s.MayReport s { s.emit .ticked with waitLeft := n } := .of_silent rfl rfl
    exact hticked.trans (State.reports_settle _)
  | tickedUntimed => exact .of_silent rfl rfl
  | tickedTimed => exact .of_silent rfl rfl
  | timedOut c =>
    have hticked : Reports s.MayReport s (s.emit .ticked) := .of_silent rfl rfl
    exact hticked.trans (.of_completed (s.mayReport_plain c.entry.tag .timeout) rfl)
  | hardReset => exact .of_silent rfl rfl
  | ordered => exact .of_trace_eq rfl

theorem Turn.reports (h : Turn s t) : Reports s.MayReport s t := by
  cases h with
  | owed ho =>
    cases ho with
    | dispatched => exact State.reports_dispatch _ _
    | nextRead => exact .of_silent rfl rfl
  | expired => exact .of_trace_eq rfl
  | unchanged => exact .of_trace_eq rfl
  | reacted _ _ hr => exact hr.reports

end

/-! ### The statements -/

/-- Settles O51: the completions before the step are as they were, and `Turn.reports` tells those that it adds. -/
theorem completionsCarryOnlyWhatTheyMean : Obligations.CompletionsCarryOnlyWhatTheyMean := by
  intro s t hs h k hk
  obtain ⟨new, ht, hnew⟩ := (step_turn h).reports
  rw [ht, completionsOf_append, List.mem_append] at hk
  exact hk.elim (hs k) (fun hm => (hnew k hm).1)

/-- A transaction that awaits one of the three reads is a follow-up (R25). -/
theorem State.CurOk.kind_of_reads {s : State} {c : Cur} (h : s.CurOk c)
    (hph : c.phase = .phAck ∨ c.phase = .phLen ∨ c.phase = .phTail) : c.entry.kind = .txRdfollow := by
  rcases hph with hph | hph | hph <;> simp only [State.CurOk, hph] at h <;> exact h.1

/-- With a transaction in flight the block is `Dispatching` (R37 ii). -/
theorem State.PreInv.dispatching_of_cur {s : State} {c : Cur} (h : s.PreInv) (hc : s.cur = some c) :
    s.sched = .dispatching := by
  by_contra hs
  have hnone := (h.free hs).1
  simp [hc] at hnone

/-- Settles O59: a value comes from a transaction that awaits a read, and by the invariant that is a follow-up. -/
theorem valuesComeOnlyFromReads : Obligations.ValuesComeOnlyFromReads := by
  intro s t hinv h
  obtain ⟨new, ht, hnew⟩ := (step_turn h).reports
  refine ⟨new, ht, fun k hm => ?_⟩
  obtain ⟨⟨hvalue, herror⟩, hreads⟩ := hnew k hm
  refine ⟨fun hval => ?_, herror.resolve_right⟩
  obtain ⟨c, hc, htag, hph⟩ := hreads hval
  obtain ⟨-, -, -, hok⟩ := hinv.preInv.onBus (hinv.preInv.dispatching_of_cur hc) hc
  exact ⟨hvalue.resolve_right (fun hzero => hval.elim (· hzero.1) (· hzero.2)), c, hc, hok.kind_of_reads hph, htag⟩

end Sys2Proof.Machine
end

section
/-!
PROOFS. The queue (`10_state.md` R24, `42_scheduler.md` R131, R133): what a step leaves of it, and what it adds
at the tail.
-/

namespace Sys2Proof.Machine

/-! ### The internal transitions -/

/-- The entries `kept` are those of `q`, or what the dispatch of its head to the bus of `t` leaves of them. -/
def KeptOrDispatched (q : List Entry) (t : State) (kept : List Entry) : Prop :=
  kept = q ∨ ∃ e ph, q = e :: kept ∧ t.cur = some { entry := e, phase := ph }

theorem State.settle_keptOrDispatched (u : State) : KeptOrDispatched u.queue u.settle u.settle.queue := by
  obtain ⟨-, h⟩ | ⟨-, -, -, h⟩ | ⟨e, q, -, hq, h⟩ := State.settle_cases u <;> rw [h]
  · exact .inl rfl
  · exact .inl rfl
  · obtain ⟨ph, -, hcur, -⟩ := State.dispatch_spec { u with queue := q } e
    exact .inr ⟨e, ph, by simpa using hq, hcur⟩

/-- Where one entry has joined the queue and the head is dispatched, the head is an old entry; or the queue was
empty, and the new entry goes to the bus itself. -/
theorem State.settle_joined {u : State} {q : List Entry} (x : Entry) (h : u.queue = q ++ [x]) :
    ∃ kept joined, u.settle.queue = kept ++ joined ∧ KeptOrDispatched q u.settle kept ∧
      (joined = [] ∨ joined = [x]) := by
  obtain hkept | ⟨e, ph, hq, hcur⟩ := u.settle_keptOrDispatched
  · exact ⟨q, [x], hkept.trans h, .inl rfl, .inr rfl⟩
  · rw [h] at hq
    cases q with
    | nil =>
      obtain ⟨-, hrest⟩ := List.cons.inj hq
      exact ⟨[], [], hrest.symm, .inl rfl, .inl rfl⟩
    | cons y q =>
      obtain ⟨rfl, hrest⟩ := List.cons.inj hq
      exact ⟨q, [x], hrest.symm, .inr ⟨y, ph, rfl, hcur⟩, .inr rfl⟩

/-! ### Reactions -/

/-- What the reaction to an event leaves of the queue. -/
inductive Leaves (s : State) : Input → State → List Entry → Prop
  /-- all of it, or all but the head that went to the bus -/
  | kept {e : Input} {t : State} {kept : List Entry} (h : KeptOrDispatched s.queue t kept) : Leaves s e t kept
  /-- all but the entry that a CANCEL took (R144) -/
  | cancelled {c : CmdWord} {pre post : List Entry} {x : Entry} {t : State} (hop : c.op = 2)
      (hq : s.queue = pre ++ x :: post) (hx : x.tag = c.tag) (hpre : ∀ y ∈ pre, y.tag ≠ c.tag) :
      Leaves s (.word (.cmd c)) t (pre ++ post)
  /-- nothing, after a SCHED_RESET (R146, R147) -/
  | emptied {c : CmdWord} {t : State} (hop : c.op = 3) : Leaves s (.word (.cmd c)) t []
  /-- nothing, after a `HardReset` (R220) -/
  | reset {t : State} : Leaves s .hardReset t []

/-- What joins the tail of the queue in the reaction to an event. -/
inductive Joins (s : State) : Input → List Entry → Prop
  /-- nothing joins -/
  | nothing {e : Input} : Joins s e []
  /-- the entry of an accepted WRITE or READ (R133) -/
  | made {c : CmdWord} {x : Entry} (h : CmdWord.Makes c s.cfg.addr x) : Joins s (.word (.cmd c)) [x]
  /-- the follow-up of the read request that `Ok` acknowledges (R164) -/
  | followUp {c : Cur} (hc : s.cur = some c) (hkind : c.entry.kind = .txRdreq) (hph : c.phase = .phWr) :
      Joins s (.rsp .ok) [c.followUp]

/-- How the reaction to an event changes the queue. -/
def QueueChange (s : State) (e : Input) (t : State) : Prop :=
  ∃ kept joined, t.queue = kept ++ joined ∧ Leaves s e t kept ∧ Joins s e joined

/-- Where nothing joins the queue, it is left as it is or its head is dispatched. -/
theorem QueueChange.of_keptOrDispatched {s t : State} {e : Input} (h : KeptOrDispatched s.queue t t.queue) :
    QueueChange s e t :=
  ⟨t.queue, [], by simp, .kept h, .nothing⟩

theorem QueueChange.of_eq {s t : State} {e : Input} (h : t.queue = s.queue) : QueueChange s e t :=
  .of_keptOrDispatched (.inl h)

theorem QueueChange.of_settle {s u : State} {e : Input} (h : u.queue = s.queue) : QueueChange s e u.settle :=
  .of_keptOrDispatched (h ▸ u.settle_keptOrDispatched)

theorem QueueChange.of_joined {s u : State} {e : Input} {x : Entry} (h : u.queue = s.queue ++ [x])
    (hx : Joins s e [x]) : QueueChange s e u.settle := by
  obtain ⟨kept, joined, hq, hkept, hjoined⟩ := State.settle_joined x h
  refine ⟨kept, joined, hq, .kept hkept, ?_⟩
  obtain rfl | rfl := hjoined
  · exact .nothing
  · exact hx

theorem ReadsOn.queue {s u : State} {c : Cur} (h : ReadsOn s c u) : u.queue = s.queue := by
  cases h <;> rfl

theorem queue_of_takesOn {s v : State} (h : Relation.ReflTransGen TakesOn s v) : v.queue = s.queue := by
  induction h with
  | refl => rfl
  | tail _ hon ih =>
    obtain ⟨-, c, -, hon⟩ := hon
    exact hon.queue.trans ih

/-- Only `Ok` to a read request adds to the queue; every other response leaves it to the internal transitions. -/
theorem Response.queueChange {s t : State} {r : BusRsp} (h : Response s r t) : QueueChange s (.rsp r) t := by
  obtain ⟨-, hc, hu⟩ := h
  cases hu with
  | acknowledged hph hkind hr =>
    subst hr
    exact .of_joined rfl (.followUp hc hkind hph)
  | completed => exact .of_settle rfl
  | drained => exact .of_settle rfl
  | readsOn hon => exact .of_settle hon.queue

/-- Bytes are no acknowledgement, so an offered reply adds nothing to the queue. -/
theorem Response.keptOrDispatched {s t : State} {b : List Byte} (h : Response s (.bytes b) t) :
    KeptOrDispatched s.queue t t.queue := by
  obtain ⟨kept, joined, hq, hleaves, hjoins⟩ := h.queueChange
  cases hjoins
  cases hleaves with
  | kept hkept => simpa [hq] using hkept

theorem Reaction.queueChange {s t : State} {e : Input} (h : Reaction s e t) : QueueChange s e t := by
  cases h with
  | accepted c x n hmade => exact .of_joined rfl (.made hmade)
  | cancelled c pre x post hop hq hx hpre => exact ⟨pre ++ post, [], by simp, .cancelled hop hq hx hpre, .nothing⟩
  | emptied c hop => exact ⟨[], [], by simp, .emptied hop, .nothing⟩
  | emptiedWaiting c hop => exact ⟨[], [], by simp, .emptied hop, .nothing⟩
  | builtOnly => exact .of_eq rfl
  | replied w b hv ht => exact .of_keptOrDispatched (queue_of_takesOn hv ▸ ht.keptOrDispatched)
  | responded ht => exact ht.queueChange
  | tickedFree => exact .of_settle rfl
  | tickedUntimed => exact .of_eq rfl
  | tickedTimed => exact .of_eq rfl
  | timedOut => exact .of_eq rfl
  | hardReset => exact ⟨[], [], rfl, .reset, .nothing⟩
  | ordered => exact .of_eq rfl

/-- The urgent work of the engine takes at most the head off the queue. -/
theorem Owed.keptOrDispatched {s t : State} (h : Owed s t) : KeptOrDispatched s.queue t t.queue := by
  cases h with
  | @dispatched e q hp hq =>
    obtain ⟨ph, -, hcur, -⟩ := State.dispatch_spec { s with queue := q } e
    exact .inr ⟨e, ph, by simpa using hq, hcur⟩
  | nextRead => exact .inl rfl

/-- Settles O45: a reaction changes the queue as `Reaction.queueChange` says; the other steps at most dispatch its
head. -/
theorem queueStaysInOrder : Obligations.QueueStaysInOrder := by
  intro s t h
  cases step_turn h with
  | owed ho => exact ⟨t.queue, [], by simp, ho.keptOrDispatched.imp_right .inl, .inl rfl⟩
  | expired => exact ⟨s.queue, [], by simp, .inl rfl, .inl rfl⟩
  | unchanged => exact ⟨s.queue, [], by simp, .inl rfl, .inl rfl⟩
  | @reacted e rest _ hd hi hr =>
    obtain ⟨kept, joined, hq, hleaves, hjoins⟩ := hr.queueChange
    refine ⟨kept, joined, hq, ?_, ?_⟩
    · cases hleaves with
      | kept hkept => exact hkept.imp_right .inl
      | @cancelled c pre post x _ hop hsplit hx hpre =>
        exact .inr (.inr (.inl ⟨c, rest, pre, x, post, hi, hop, hsplit, hx, hpre, rfl⟩))
      | @emptied c _ hop => exact .inr (.inr (.inr (.inl ⟨rfl, c, rest, hi, hop⟩)))
      | reset => exact .inr (.inr (.inr (.inr ⟨rfl, rest, hi⟩)))
    · cases hjoins with
      | nothing => exact .inl rfl
      | @made c x hmade =>
        obtain ⟨hop, rfl⟩ | ⟨hop, rfl⟩ := hmade
        · exact .inr (.inl ⟨c, rest, hi, hop, rfl⟩)
        · exact .inr (.inr (.inl ⟨c, rest, hi, hop, rfl⟩))
      | @followUp c hc hkind hph => exact .inr (.inr (.inr ⟨c, rest, hi, hc, hkind, hph, rfl⟩))

end Sys2Proof.Machine
end

section
/-!
PROOFS. The life of an operation (`10_state.md` R31, R37 v and vi, R232): a step keeps the balance between the
tags accepted, the tags completed and the tags still live, and so keeps live tags different.
-/

namespace Sys2Proof.Machine

/-! ### The tags of the live operations, by what is on the bus -/

theorem State.liveTags_of_free {s : State} (hc : s.cur = none) : s.liveTags = s.queue.map (·.tag) := by
  simp [State.liveTags, hc]

theorem State.liveTags_of_live {s : State} {c : Cur} (hc : s.cur = some c) (hph : c.phase ≠ .phDrain) :
    s.liveTags = s.queue.map (·.tag) ++ [c.entry.tag] := by
  simp [State.liveTags, hc, hph]

theorem State.liveTags_of_drain {s : State} {c : Cur} (hc : s.cur = some c) (hph : c.phase = .phDrain) :
    s.liveTags = s.queue.map (·.tag) := by
  simp [State.liveTags, hc, hph]

/-! ### The balance of accepted, completed and live tags -/

/-- The change from `s` to `t` accepts operations with the tags `acc`; each of these and each operation live before is
either completed by the change, once, or live after it. -/
def Balanced (acc : List Tag) (s t : State) : Prop :=
  ∃ done, acceptedTags t.trace = acceptedTags s.trace ++ acc ∧ completedTags t.trace = completedTags s.trace ++ done ∧
    (s.liveTags ++ acc).Perm (done ++ t.liveTags)

theorem Balanced.trans {acc acc' : List Tag} {s t u : State} (h : Balanced acc s t) (h' : Balanced acc' t u) :
    Balanced (acc ++ acc') s u := by
  obtain ⟨done, ha, hd, hp⟩ := h
  obtain ⟨done', ha', hd', hp'⟩ := h'
  refine ⟨done ++ done', by rw [ha', ha, List.append_assoc], by rw [hd', hd, List.append_assoc], ?_⟩
  calc s.liveTags ++ (acc ++ acc')
    _ = s.liveTags ++ acc ++ acc' := (List.append_assoc ..).symm
    _ |>.Perm (done ++ t.liveTags ++ acc') := hp.append_right acc'
    _ = done ++ (t.liveTags ++ acc') := List.append_assoc ..
    _ |>.Perm (done ++ (done' ++ u.liveTags)) := hp'.append_left done
    _ = done ++ done' ++ u.liveTags := (List.append_assoc ..).symm

/-- A change that accepts and completes nothing keeps the balance where it only moves the live operations about. -/
theorem Balanced.of_silent {s t : State} (ha : acceptedTags t.trace = acceptedTags s.trace)
    (hd : completedTags t.trace = completedTags s.trace) (hl : s.liveTags.Perm t.liveTags) : Balanced [] s t :=
  ⟨[], by simp [ha], by simp [hd], by simpa using hl⟩

theorem Balanced.of_completed {s t : State} {k : Completion} (ht : t.trace = s.trace ++ [.completed k])
    (hl : s.liveTags.Perm (k.tag :: t.liveTags)) : Balanced [] s t :=
  ⟨[k.tag], by simp [ht], by simp [ht], by simpa using hl⟩

/-! ### The parts of a step -/

/-- A dispatch moves an operation from the head of the queue to the free bus. -/
theorem State.balanced_dispatch {s : State} {e : Entry} {q : List Entry} (hc : s.cur = none) (hq : s.queue = e :: q) :
    Balanced [] s (({ s with queue := q }).dispatch e) := by
  obtain ⟨ph, r, hcur, ht⟩ := State.dispatch_spec { s with queue := q } e
  refine .of_silent (by simp [ht]) (by simp [ht]) ?_
  have hph : ph ≠ .phDrain := by
    by_cases hk : e.kind = .txRdfollow
    · rw [State.dispatch_of_follow _ _ hk] at hcur; cases hcur; decide
    · rw [State.dispatch_of_write _ _ hk] at hcur; cases hcur; decide
  rw [State.liveTags_of_free hc, State.liveTags_of_live hcur hph, State.dispatch_queue, hq]
  exact (List.perm_append_singleton e.tag (q.map (·.tag))).symm

theorem State.balanced_settle {u : State} (hc : u.sched ≠ .dispatching → u.cur = none) : Balanced [] u u.settle := by
  obtain ⟨-, h⟩ | ⟨-, -, -, h⟩ | ⟨e, q, hp, hq, h⟩ := State.settle_cases u <;> rw [h]
  · exact .of_silent rfl rfl (.refl _)
  · exact .of_silent rfl rfl (.refl _)
  · have hs : u.sched ≠ .dispatching := by intro hs; simp [State.atDispatchPoint, hs] at hp
    exact State.balanced_dispatch (hc hs) hq

/-- The same operation stays on the bus when its transaction goes on to another read. -/
theorem State.balanced_nextRead {s : State} {c : Cur} {ph : Phase} (n : Nat) (hc : s.cur = some c)
    (hph : c.phase ≠ .phDrain) (hph' : ph ≠ .phDrain) : Balanced [] s (s.nextRead c ph n) := by
  refine .of_silent (by simp) (by simp) ?_
  rw [State.liveTags_of_live hc hph, State.liveTags_of_live (s.nextRead_cur c ph n) hph']
  exact .refl _

theorem ReadsOn.balanced {s u : State} {c : Cur} (h : ReadsOn s c u) (hc : s.cur = some c) : Balanced [] s u := by
  cases h with
  | ack a hph =>
    exact State.balanced_nextRead (s := { s with rxAck := some a }) 1 hc (by simp [hph]) (by decide)
  | len l hph =>
    exact State.balanced_nextRead (s := { s with rxLen := some l, dataLength := some (dataLengthOf l) }) _ hc
      (by simp [hph]) (by decide)

theorem Answered.balanced {s u : State} {c : Cur} {r : BusRsp} (h : Answered s c r u) (hc : s.cur = some c) :
    Balanced [] s u := by
  cases h with
  | completed k hph htag =>
    refine .of_completed (k := k) rfl ?_
    rw [State.liveTags_of_live hc hph, State.liveTags_of_free (State.finishTransaction_cur ..), htag]
    exact List.perm_append_singleton c.entry.tag _
  | acknowledged hph =>
    refine .of_silent rfl rfl ?_
    rw [State.liveTags_of_live hc (by simp [hph]), State.liveTags_of_free (State.finishTransaction_cur ..)]
    simp [Cur.followUp]
  | drained hph =>
    refine .of_silent rfl rfl ?_
    rw [State.liveTags_of_drain hc hph, State.liveTags_of_free (State.finishTransaction_cur ..)]
    exact .refl _
  | readsOn hon => exact hon.balanced hc

/-- A transaction that has ended is off the bus; one that goes on keeps the block `Dispatching`. -/
theorem Answered.free {s u : State} {c : Cur} {r : BusRsp} (h : Answered s c r u) (hs : s.sched = .dispatching)
    (hu : u.sched ≠ .dispatching) : u.cur = none := by
  cases h with
  | completed => rfl
  | acknowledged => rfl
  | drained => rfl
  | readsOn hon => cases hon <;> exact absurd hs hu

theorem State.balanced_responded (s : State) : Balanced [] s (s.emit .responded) :=
  .of_silent (by simp) (by simp) (.refl _)

theorem State.balanced_ticked (s : State) : Balanced [] s (s.emit .ticked) :=
  .of_silent (by simp) (by simp) (.refl _)

theorem Response.balanced {s t : State} {r : BusRsp} (h : Response s r t) : Balanced [] s t := by
  obtain ⟨hs, hc, hu⟩ := h
  exact s.balanced_responded.trans ((hu.balanced hc).trans (State.balanced_settle (hu.free hs)))

theorem balanced_of_takesOn {s v : State} (h : Relation.ReflTransGen TakesOn s v) : Balanced [] s v := by
  induction h with
  | refl => exact .of_silent rfl rfl (.refl _)
  | @tail v w _ hon ih =>
    obtain ⟨-, c, hc, hon⟩ := hon
    exact ih.trans (v.balanced_responded.trans (hon.balanced hc))

/-- An accepted command makes one operation live, in the queue. -/
theorem State.balanced_accepted (s : State) (e : Entry) :
    Balanced [e.tag] s ((s.emit (.accepted e.tag)).enqueue e) := by
  refine ⟨[], by simp, by simp, ?_⟩
  simp only [State.liveTags, State.enqueue_queue, State.emit_queue, List.map_append, List.map_singleton,
    List.append_assoc, List.nil_append]
  exact List.perm_append_comm.append_left _

/-- A CANCEL completes the operation that it takes out of the queue. -/
theorem State.balanced_cancelled {s : State} {pre post : List Entry} {e : Entry} {tag : Tag}
    (hq : s.queue = pre ++ e :: post) (he : e.tag = tag) :
    Balanced [] s (({ s with queue := pre ++ post }).raiseCancelled tag) := by
  refine .of_completed (k := .plain tag .cancelled) rfl ?_
  simp only [State.liveTags, hq, State.raiseCancelled_queue, State.raiseCancelled_cur, List.map_append,
    List.map_cons, he, List.append_assoc, List.cons_append]
  exact List.perm_middle

theorem acceptedTags_of_completions (q : List Entry) (tags : List Tag) :
    (q.map (fun e => Obs.completed (.plain e.tag .cancelled))).foldl Obs.acceptedAfter tags = tags := by
  induction q generalizing tags with
  | nil => rfl
  | cons e q ih => exact ih tags

theorem completedTags_of_completions (q : List Entry) (tags : List Tag) :
    (q.map (fun e => Obs.completed (.plain e.tag .cancelled))).foldl Obs.completedAfter tags =
      tags ++ q.map (·.tag) := by
  induction q generalizing tags with
  | nil => simp
  | cons e q ih => simpa [Completion.plain] using ih (tags ++ [e.tag])

/-- A SCHED_RESET completes what it takes out of the queue, which is everything there. -/
theorem State.balanced_cancelAll (s : State) : Balanced [] s s.cancelAll := by
  refine ⟨s.queue.map (·.tag), ?_, ?_, ?_⟩
  · simp [acceptedTags_of_completions]
  · simp [completedTags_of_completions]
  · simp [State.liveTags]

/-! ### The step -/

/-- The tags of the operations that the reaction to an event accepts: that of a WRITE or READ, or none. -/
def Accepts (e : Input) (acc : List Tag) : Prop :=
  acc = [] ∨ ∃ c : CmdWord, e = .word (.cmd c) ∧ (c.op = 0 ∨ c.op = 1) ∧ acc = [c.tag]

theorem CmdWord.Makes.accepts {c : CmdWord} {addr : BitVec 7} {e : Entry} (h : CmdWord.Makes c addr e) :
    Accepts (.word (.cmd c)) [e.tag] := by
  obtain ⟨hop, rfl⟩ | ⟨hop, rfl⟩ := h
  · exact .inr ⟨c, rfl, .inl hop, rfl⟩
  · exact .inr ⟨c, rfl, .inr hop, rfl⟩

/-- A reset forgets every operation, and every other reaction keeps the balance (R223). -/
theorem Reaction.balanced {s t : State} {e : Input} (h : Reaction s e t) (hinv : s.Inv) :
    (t.liveTags = [] ∧ t.trace = s.trace ++ [.hardReset]) ∨ ∃ acc, Balanced acc s t ∧ Accepts e acc := by
  have hfree : s.sched ≠ .dispatching → s.cur = none := fun hs => (hinv.preInv.free hs).1
  have of_nil : Balanced [] s t → (t.liveTags = [] ∧ t.trace = s.trace ++ [.hardReset]) ∨
      ∃ acc, Balanced acc s t ∧ Accepts e acc := fun hb => .inr ⟨[], hb, .inl rfl⟩
  cases h with
  | accepted c x n hmade =>
    exact .inr ⟨[x.tag], (s.balanced_accepted x).trans (State.balanced_settle hfree), hmade.accepts⟩
  | cancelled c pre x post hop hq hx => exact of_nil (State.balanced_cancelled hq hx)
  | emptied => exact of_nil s.balanced_cancelAll
  | emptiedWaiting => exact of_nil (s.balanced_cancelAll.trans (.of_silent rfl rfl (.refl _)))
  | builtOnly => exact of_nil (.of_silent rfl rfl (.refl _))
  | replied w b hv ht => exact of_nil ((balanced_of_takesOn hv).trans ht.balanced)
  | responded ht => exact of_nil ht.balanced
  | tickedFree n =>
    have hcounted : Balanced [] (s.emit .ticked) { s.emit .ticked with waitLeft := n } := .of_silent rfl rfl (.refl _)
    exact of_nil (s.balanced_ticked.trans (hcounted.trans (State.balanced_settle hfree)))
  | tickedUntimed => exact of_nil s.balanced_ticked
  | tickedTimed => exact of_nil (s.balanced_ticked.trans (.of_silent rfl rfl (.refl _)))
  | timedOut c hs hc ht =>
    refine of_nil (s.balanced_ticked.trans (.of_completed (k := .plain c.entry.tag .timeout) rfl ?_))
    have hph : c.phase ≠ .phDrain := by
      obtain ⟨-, hph | hph | hph⟩ := c.timed_iff.mp ht <;> simp [hph]
    rw [State.liveTags_of_live (s := s.emit .ticked) hc hph, State.liveTags_of_drain rfl rfl]
    exact List.perm_append_singleton c.entry.tag _
  | hardReset => exact .inl ⟨rfl, rfl⟩
  | ordered => exact of_nil (.of_silent rfl rfl (.refl _))

/-- From a state that meets the invariant, every step but a reset keeps the balance. -/
theorem State.Inv.step_balanced {s t : State} (hinv : s.Inv) (h : step s = .next t) :
    (t.liveTags = [] ∧ t.trace = s.trace ++ [.hardReset]) ∨
    ∃ acc, Balanced acc s t ∧ (acc = [] ∨ ∃ e rest, s.inputs = e :: rest ∧ Accepts e acc) := by
  obtain rfl | ⟨e, rest, hi, hr⟩ := hinv.step_reaction h
  · exact .inr ⟨[], .of_silent rfl rfl (.refl _), .inl rfl⟩
  · exact (hr.balanced (hinv.ofOwnFields rest s.built s.trace)).imp_right
      (fun ⟨acc, hb, ha⟩ => ⟨acc, hb, .inr ⟨e, rest, hi, ha⟩⟩)

/-! ### One completion for each operation (R31, R37 vi) -/

/-- The completions owed are the accepted tags less the completed ones. -/
theorem owedCompletions_eq (t : List Obs) :
    owedCompletions t = (acceptedTags t).length - (completedTags t).length := by
  induction t using List.reverseRecOn with
  | nil => rfl
  | append_singleton t o ih =>
    cases o <;> simp [ih] <;> omega

/-- Settles O49: the balance of tags gives that of their numbers, since a state has as many live operations as
live tags. -/
theorem oneCompletionPerOperation : Obligations.OneCompletionPerOperation := by
  intro s t hinv h
  simp only [owedCompletions_eq, ← State.length_liveTags]
  obtain ⟨hl, ht⟩ | ⟨acc, ⟨done, ha, hd, hp⟩, -⟩ := hinv.step_balanced h
  · simp [hl, ht]
  · have hlen := hp.length_eq
    rw [ha, hd]
    refine ⟨fun hs => ?_, fun hs => ?_⟩
    · simp only [List.length_append] at hlen ⊢
      push_cast
      omega
    · calc acceptedTags s.trace ++ acc
        _ |>.Perm (completedTags s.trace ++ s.liveTags ++ acc) := hs.append_right acc
        _ = completedTags s.trace ++ (s.liveTags ++ acc) := List.append_assoc ..
        _ |>.Perm (completedTags s.trace ++ (done ++ t.liveTags)) := hp.append_left _
        _ = completedTags s.trace ++ done ++ t.liveTags := (List.append_assoc ..).symm

/-! ### One follow-up for each READ (R37 v, R232) -/

/-- Where the host gives a new operation a tag of its own, the tags of the live operations stay different. -/
theorem State.Inv.step_nodup {s t : State} (hinv : s.Inv) (h : step s = .next t) (hs : s.liveTags.Nodup)
    (hfresh : ∀ c rest, s.inputs = .word (.cmd c) :: rest → c.op = 0 ∨ c.op = 1 → c.tag ∉ s.liveTags) :
    t.liveTags.Nodup := by
  obtain ⟨hl, -⟩ | ⟨acc, ⟨done, -, -, hp⟩, hacc⟩ := hinv.step_balanced h
  · simp [hl]
  · have hnodup : (s.liveTags ++ acc).Nodup := by
      obtain rfl | ⟨-, rest, hi, rfl | ⟨c, rfl, hop, rfl⟩⟩ := hacc
      · simpa using hs
      · simpa using hs
      · have hnew := hfresh c rest hi hop
        rw [List.nodup_append]
        exact ⟨hs, List.nodup_singleton _, fun a ha b hb hab => hnew (List.mem_singleton.mp hb ▸ hab ▸ ha)⟩
    exact (List.nodup_append.mp (hp.nodup_iff.mp hnodup)).2.1

/-- Live tags that differ leave at most one queued entry of each tag, whatever else is asked of it. -/
theorem State.length_filter_tag_le {s : State} (h : s.liveTags.Nodup) (p : Entry → Bool) (tag : Tag)
    (hp : ∀ e, p e = true → e.tag = tag) : (s.queue.filter p).length ≤ 1 := by
  have hqueue : (s.queue.map (·.tag)).Nodup := (List.nodup_append.mp h).1
  have hfilter : ((s.queue.filter p).map (·.tag)).Nodup := hqueue.sublist (List.filter_sublist.map _)
  have hsame : (s.queue.filter p).map (·.tag) = List.replicate ((s.queue.filter p).map (·.tag)).length tag := by
    refine List.eq_replicate_of_mem (fun b hb => ?_)
    obtain ⟨e, he, rfl⟩ := List.mem_map.mp hb
    exact hp e (List.mem_filter.mp he).2
  rw [hsame, List.nodup_replicate, List.length_map] at hfilter
  exact hfilter

/-- No step makes more copies of an entry out of the queue than there were. -/
theorem Leaves.count_le {s t : State} {e : Input} {kept : List Entry} (h : Leaves s e t kept) (x : Entry) :
    kept.count x ≤ s.queue.count x := by
  cases h with
  | kept h =>
    obtain rfl | ⟨y, ph, hq, -⟩ := h
    · exact le_rfl
    · exact hq ▸ List.count_le_count_cons
  | cancelled hop hq => exact hq ▸ ((List.sublist_cons_self _ _).append_left _).count_le x
  | emptied => simp
  | reset => simp

/-- A follow-up joins the queue as that of the read request just acknowledged, and alone. -/
theorem Joins.followUp_of_count {s : State} {e : Input} {joined : List Entry} {x : Entry} (h : Joins s e joined)
    (hx : x.kind = .txRdfollow) (hcount : 0 < joined.count x) :
    joined.count x = 1 ∧ ∃ c, s.cur = some c ∧ c.entry.kind = .txRdreq ∧ c.phase = .phWr ∧ e = .rsp .ok ∧
      x = c.followUp := by
  cases h with
  | nothing => simp at hcount
  | made hmade =>
    obtain rfl := List.mem_singleton.mp (List.count_pos_iff.mp hcount)
    obtain ⟨-, rfl⟩ | ⟨-, rfl⟩ := hmade <;> cases hx
  | @followUp c hc hkind hph =>
    obtain rfl := List.mem_singleton.mp (List.count_pos_iff.mp hcount)
    exact ⟨by simp, c, hc, hkind, hph, rfl, rfl⟩

/-- Settles O58: the live tags stay different, and what `Joins` allows to join the queue is at most one follow-up. -/
theorem oneFollowUpPerRead : Obligations.OneFollowUpPerRead := by
  intro s t hinv h
  refine ⟨fun hs hfresh => ?_, fun x hx hlt => ?_⟩
  · have hnodup := hinv.step_nodup h hs hfresh
    exact ⟨hnodup, fun tag => State.length_filter_tag_le hnodup _ tag (by simp)⟩
  · obtain rfl | ⟨e, rest, hi, hr⟩ := hinv.step_reaction h
    · exact absurd hlt (lt_irrefl _)
    · obtain ⟨kept, joined, hq, hleaves, hjoins⟩ := hr.queueChange
      have hkept : kept.count x ≤ s.queue.count x := hleaves.count_le x
      have hsum : t.queue.count x = kept.count x + joined.count x := by rw [hq, List.count_append]
      obtain ⟨hone, c, hc, hkind, hph, rfl, hfollow⟩ := hjoins.followUp_of_count hx (by omega)
      exact ⟨by omega, c, rest, hc, hkind, hph, hi, hfollow⟩

end Sys2Proof.Machine
end

section
/-!
PROOFS. A reply offered on the bus (`20_memory.md` R54). A transaction that ends leaves the state `State.ended`; one
lemma for each phase of a follow-up says what bytes offered there lead to, and the statement reads these lemmas off.
-/

namespace Sys2Proof.Machine

open Host (Outcome)

/-! ### What the tail check sees (R116) -/

/-- Bytes past the checksum byte play no part in the checks. -/
theorem checkTail_take (addr : BitVec 7) (control : Byte) (n : Nat) (tail : List Byte) :
    checkTail addr control n (tail.take (n + 1)) = checkTail addr control n tail := by
  have hshort : (tail.take (n + 1)).length < n + 1 ↔ tail.length < n + 1 := by simp
  have hdata : (tail.take (n + 1)).take n = tail.take n := by simp [List.take_take]
  have hcs : (tail.take (n + 1)).getD n 0 = tail.getD n 0 := by simp [List.getD_eq_getElem?_getD]
  simp only [checkTail, hshort, hdata, hcs]

/-! ### The end of a transaction, as `State.ended` (R138, R173, R174) -/

@[simp] theorem State.ended_cur (s : State) (d : Dir) (obs : List Obs) : (s.ended d obs).cur = none := rfl

/-- An output just before the end stands first among those of the end. -/
@[simp] theorem State.ended_emit (s : State) (o : Obs) (d : Dir) (obs : List Obs) :
    (s.emit o).ended d obs = s.ended d (o :: obs) := by
  simp [State.ended, State.emit]

/-- The next read of a follow-up leaves only its request behind, once the transaction has ended. -/
@[simp] theorem State.ended_nextRead (s : State) (c : Cur) (ph : Phase) (n : Nat) (d : Dir) (obs : List Obs) :
    (s.nextRead c ph n).ended d obs = s.ended d (.request s.cfg.addr (.busRead n) :: obs) := by
  simp [State.nextRead, State.request, State.ended, State.emit]

theorem State.finishTransaction_eq_ended (s : State) (c : Cur) : s.finishTransaction c = s.ended c.dir [] := by
  simp only [State.finishTransaction, State.ended, State.clearParser, List.append_nil]
  cases c.dir <;> rfl

theorem State.complete_finishTransaction (s : State) (c : Cur) (k : Completion) :
    (s.complete k).finishTransaction c = s.ended c.dir [.completed k] := by
  rw [State.finishTransaction_eq_ended, State.complete, State.ended_emit]

theorem State.raise_eq_ended (s : State) (c : Cur) (st : Status) :
    s.raise c st 0 = s.ended c.dir [.completed (completionOfReply c.entry.tag (.error st))] := by
  have hk : Completion.failed c.entry.tag st 0 = completionOfReply c.entry.tag (.error st) := by
    simp [Completion.failed, Completion.plain, completionOfReply]
  rw [State.raise, State.complete_finishTransaction, hk]

theorem State.succeed_eq_ended (s : State) (c : Cur) (v : ReadResult) :
    s.succeed c v = s.ended c.dir [.completed (completionOfReply c.entry.tag (.ok v))] :=
  State.complete_finishTransaction s c _

/-! ### The length byte and the tail (R171, R172) -/

/-- The length byte is loaded into the parser registers (R115), as `State.lenAnswered` writes it. -/
def State.loadLen (s : State) (l : Byte) : State :=
  { s with rxLen := some l, dataLength := some (dataLengthOf l) }

@[simp] theorem State.loadLen_cfg (s : State) (l : Byte) : (s.loadLen l).cfg = s.cfg := rfl
@[simp] theorem State.loadLen_sched (s : State) (l : Byte) : (s.loadLen l).sched = s.sched := rfl
@[simp] theorem State.loadLen_dataLength (s : State) (l : Byte) :
    (s.loadLen l).dataLength = some (dataLengthOf l) := rfl

/-- The end of a transaction empties the registers again. -/
@[simp] theorem State.ended_loadLen (s : State) (l : Byte) (d : Dir) (obs : List Obs) :
    (s.loadLen l).ended d obs = s.ended d obs := rfl

theorem State.lenAnswered_of_rejected {s : State} (c : Cur) {l : Byte} (bs : List Byte)
    (hl : lengthAccepted s.cfg.strictLengthFlag s.cfg.maxDataLen l = false) :
    s.lenAnswered c (.ok (l :: bs)) =
      s.ended c.dir [.completed (completionOfReply c.entry.tag (.error .malformedLength))] := by
  simp only [State.lenAnswered, hl, State.raise_eq_ended]
  rfl

theorem State.lenAnswered_of_accepted {s : State} (c : Cur) {l : Byte} (bs : List Byte)
    (hl : lengthAccepted s.cfg.strictLengthFlag s.cfg.maxDataLen l = true) :
    s.lenAnswered c (.ok (l :: bs)) =
      (s.loadLen l).nextRead c .phTail ((dataLengthOf l).toNat + 1) :=
  if_pos hl

/-- What the tail read returned ends the operation as `checkTail` says; the registers it loaded are emptied again. -/
theorem State.tailAnswered_ok (s : State) (c : Cur) (n : Nat) (tail : List Byte) :
    s.tailAnswered c n (.ok tail) =
      s.ended c.dir [.completed (completionOfReply c.entry.tag (checkTail s.cfg.addr c.entry.control n tail))] := by
  simp only [State.tailAnswered]
  split
  · rename_i hshort
    rw [State.raise_eq_ended, checkTail, if_pos hshort]
  · split
    · rename_i st hst; rw [State.raise_eq_ended, hst]; rfl
    · rename_i v hv; rw [State.succeed_eq_ended, hv]; rfl

/-! ### Offered bytes and the read that takes them (R54, R113) -/

theorem BusRsp.readAnswer_take (n : Nat) (bs : List Byte) :
    (BusRsp.bytes (bs.take n)).readAnswer n = some (.ok (bs.take n)) :=
  if_pos (List.length_take_le n bs)

/-- A follow-up does not go on where its transaction has ended: what the internal transitions put on the bus awaits
its first response. -/
theorem State.readsOn_settle_of_free (s : State) {u : State} (hu : u.cur = none) : s.readsOn u.settle = false := by
  unfold State.readsOn
  split
  · rename_i hc
    obtain hph | hph := State.settle_first_phase u hu hc <;> simp [hph]
  · rfl

section

variable {s u : State} {c : Cur} (hs : s.sched = .dispatching) (hc : s.cur = some c)
include hs hc

theorem State.respond_bytes_of_answer {bs : List Byte} (hu : (s.emit .responded).answer c (.bytes bs) = .next u) :
    s.respond (.bytes bs) = .next u.settle := by
  simp [State.respond, hs, hc, BusRsp.inRange, hu]

theorem State.outstandingRead_of_onBus : s.outstandingRead = s.asked c.phase := by
  simp [State.outstandingRead, hs, hc]

/-- Where the bytes that the outstanding read takes end the transaction, the offer is over. -/
theorem State.offer_of_ended {k n : Nat} {bs : List Byte} (hn : s.asked c.phase = some n)
    (hu : (s.emit .responded).answer c (.bytes (bs.take n)) = .next u) (hfree : u.cur = none) :
    s.offer (k + 1) bs = .next u.settle := by
  have hr : s.respond (.bytes (bs.take n)) = .next u.settle := State.respond_bytes_of_answer hs hc hu
  have hstop : s.readsOn u.settle = false := State.readsOn_settle_of_free s hfree
  simp [State.offer, State.outstandingRead_of_onBus hs hc, hn, hr, hstop]

/-- Where they lead to the next read of the follow-up, that read is offered the bytes after them. -/
theorem State.offer_of_readsOn {k n : Nat} {bs : List Byte} (hn : s.asked c.phase = some n)
    (hu : (s.emit .responded).answer c (.bytes (bs.take n)) = .next u) (hbus : u.sched = .dispatching)
    (hon : s.readsOn u = true) : s.offer (k + 1) bs = State.offer k (bs.drop n) u := by
  have hsettle : u.settle = u := State.settle_of_quiescent u (by simp [State.Quiescent, hbus])
  have hr : s.respond (.bytes (bs.take n)) = .next u := hsettle ▸ State.respond_bytes_of_answer hs hc hu
  simp [State.offer, State.outstandingRead_of_onBus hs hc, hn, hr, hon]

/-! ### Bytes offered in each phase of a follow-up (R171, R172, R175) -/

/-- In `PH_TAIL` the bytes are data and checksum. -/
theorem State.offer_tail {d : BitVec 7} (k : Nat) (bs : List Byte) (hph : c.phase = .phTail)
    (hd : s.dataLength = some d) :
    s.offer (k + 1) bs =
      .next (s.ended c.dir [.responded,
        .completed (completionOfReply c.entry.tag (checkTail s.cfg.addr c.entry.control d.toNat bs))]).settle := by
  have hu : (s.emit .responded).answer c (.bytes (bs.take (d.toNat + 1))) =
      .next (s.ended c.dir [.responded,
        .completed (completionOfReply c.entry.tag (checkTail s.cfg.addr c.entry.control d.toNat bs))]) := by
    simp [State.answer, hph, hd, BusRsp.readAnswer_take, State.tailAnswered_ok, checkTail_take]
  exact State.offer_of_ended hs hc (by simp [State.asked, hph, hd]) hu rfl

/-- In `PH_DRAIN` they are discarded. -/
theorem State.offer_drain (k : Nat) (bs : List Byte) (hph : c.phase = .phDrain) :
    s.offer (k + 1) bs = .next (s.ended c.dir [.responded]).settle := by
  obtain ⟨n, hn⟩ : ∃ n, s.asked .phDrain = some n := ⟨_, rfl⟩
  have hn' : (s.emit .responded).asked .phDrain = some n := hn
  have hu : (s.emit .responded).answer c (.bytes (bs.take n)) = .next (s.ended c.dir [.responded]) := by
    simp [State.answer, hph, hn', BusRsp.readAnswer_take, State.finishTransaction_eq_ended]
  exact State.offer_of_ended hs hc (hph ▸ hn) hu rfl

/-- In `PH_LEN` a rejected length byte ends the operation. -/
theorem State.offer_len_of_rejected (k : Nat) (l : Byte) (bs : List Byte) (hph : c.phase = .phLen)
    (hl : lengthAccepted s.cfg.strictLengthFlag s.cfg.maxDataLen l = false) :
    s.offer (k + 1) (l :: bs) =
      .next (s.ended c.dir
        [.responded, .completed (completionOfReply c.entry.tag (.error .malformedLength))]).settle := by
  have hu : (s.emit .responded).answer c (.bytes ((l :: bs).take 1)) =
      .next (s.ended c.dir
        [.responded, .completed (completionOfReply c.entry.tag (.error .malformedLength))]) := by
    simp [State.answer, hph, BusRsp.readAnswer, State.lenAnswered_of_rejected, hl]
  exact State.offer_of_ended hs hc (by rw [hph]; rfl) hu rfl

/-- In `PH_LEN` an accepted length byte leads to the tail read, which takes the bytes after it. -/
theorem State.offer_len_of_accepted (k : Nat) (l : Byte) (bs : List Byte) (hph : c.phase = .phLen)
    (hl : lengthAccepted s.cfg.strictLengthFlag s.cfg.maxDataLen l = true) :
    s.offer (k + 2) (l :: bs) =
      .next (s.ended c.dir [.responded, .request s.cfg.addr (.busRead ((dataLengthOf l).toNat + 1)), .responded,
        .completed (completionOfReply c.entry.tag
          (checkTail s.cfg.addr c.entry.control (dataLengthOf l).toNat bs))]).settle := by
  have hu : (s.emit .responded).answer c (.bytes ((l :: bs).take 1)) =
      .next (((s.emit .responded).loadLen l).nextRead c .phTail ((dataLengthOf l).toNat + 1)) := by
    simp [State.answer, hph, BusRsp.readAnswer, State.lenAnswered_of_accepted, hl]
  have hn : s.asked c.phase = some 1 := by rw [hph]; rfl
  have hon : s.readsOn (((s.emit .responded).loadLen l).nextRead c .phTail ((dataLengthOf l).toNat + 1)) = true := by
    simp [State.readsOn, hc, hph]
  rw [State.offer_of_readsOn hs hc hn hu (by simpa using hs) hon,
    State.offer_tail (d := dataLengthOf l) (by simpa using hs) (State.nextRead_cur ..) k _ rfl (by simp)]
  simp [Cur.dir]

end

/-- Settles O20: each phase is one `State.offer_…` lemma, and a follow-up is a transaction of direction read. -/
theorem offeredBytesMeetThePhaseTheyFind : Obligations.OfferedBytesMeetThePhaseTheyFind := by
  intro s c ack len tail hs hc hkind
  have hdir : c.dir = .read := by rw [Cur.dir, hkind]; rfl
  have hexec : exec (.rdreply ack len tail) s = s.offer 3 (ack :: len :: tail) := rfl
  rw [hexec, ← hdir]
  refine ⟨fun hph => ?_, fun d hph hd => State.offer_tail hs hc 2 _ hph hd, fun hph => State.offer_drain hs hc 2 _ hph⟩
  cases hl : lengthAccepted s.cfg.strictLengthFlag s.cfg.maxDataLen ack with
  | true => exact State.offer_len_of_accepted hs hc 1 ack _ hph hl
  | false => exact State.offer_len_of_rejected hs hc 2 ack _ hph hl

end Sys2Proof.Machine
end

section
/-!
PROOFS. The encodings (`30_encoding.md` R71 to R83): each decoder accepts exactly the words that the encoder writes, so
decoding undoes encoding and, where a word has no ignored field, encoding undoes decoding.
-/

namespace Sys2Proof.Machine

/-! ### Big-endian fields (R53, R77) -/

@[simp] theorem hiByte_be16 (hi lo : Byte) : hiByte (be16 hi lo) = hi := by
  ext i h
  simp [hiByte, be16, h, show 8 + i < 16 by omega]

@[simp] theorem loByte_be16 (hi lo : Byte) : loByte (be16 hi lo) = lo := by
  ext i h
  simp [loByte, be16, h, show i < 16 by omega]

/-- The bits from 8 up come from the high byte, those below from the low byte. -/
@[simp] theorem be16_hiByte_loByte (v : BitVec 16) : be16 (hiByte v) (loByte v) = v := by
  ext i h
  rcases Nat.lt_or_ge i 8 with hlow | hhigh
  · simp [hiByte, loByte, be16, hlow, h]
  · simp [hiByte, loByte, be16, Nat.not_lt.2 hhigh, Nat.add_sub_cancel' hhigh, h, show i - 8 < 8 by omega]

/-! ### The builders, byte by byte (R73, R74, R111, R112) -/

theorem lengthByte_four : lengthByte 4 = 0x84 := by decide

theorem lengthByte_two : lengthByte 2 = 0x82 := by decide

theorem buildWrite_bytes (addr : BitVec 7) (control : Byte) (value : BitVec 16) :
    buildWrite addr control value =
      [Config.magic1, 0x84, Config.writeCmd, control, hiByte value, loByte value,
        checksum [Config.magic1, 0x84, Config.writeCmd, control, hiByte value, loByte value] (seed addr .write)] := by
  simp [buildWrite, buildFrame, framePrefix, lengthByte_four]

theorem buildRead_bytes (addr : BitVec 7) (control : Byte) :
    buildRead addr control =
      [Config.magic1, 0x82, Config.readCmd, control,
        checksum [Config.magic1, 0x82, Config.readCmd, control] (seed addr .read)] := by
  simp [buildRead, buildFrame, framePrefix, lengthByte_two]

end Sys2Proof.Machine

namespace Sys2Proof

open Sys2Proof.Machine

/-! ### Outgoing frames (R71 to R74) -/

/-- A word passes a test and then reads as an instruction: one link of a decoder's chain of named rejections. -/
theorem error_else_eq_ok_iff {c : Prop} [Decidable c] {e : DecodeError} {x : Except DecodeError Instr} {i : Instr} :
    (if c then .error e else x) = .ok i ↔ ¬c ∧ x = .ok i := by
  by_cases h : c
  · simp [h]
  · simp [h]

/-- A frame of seven bytes is read exactly when it is the one that `build_write` builds from its fields. -/
theorem decodeFrame_seven_eq_ok_iff (addr : BitVec 7) (m l c ctrl hi lo k : Byte) (i : Instr) :
    decodeFrame addr [m, l, c, ctrl, hi, lo, k] = .ok i ↔
      i = .wrframe ctrl (be16 hi lo) ∧ [m, l, c, ctrl, hi, lo, k] = buildWrite addr ctrl (be16 hi lo) := by
  simp only [decodeFrame, error_else_eq_ok_iff, buildWrite_bytes, ne_eq, not_not, Except.ok.injEq, List.cons.injEq,
    hiByte_be16, loByte_be16, true_and, and_true]
  constructor
  · rintro ⟨rfl, rfl, rfl, rfl, rfl⟩
    exact ⟨rfl, rfl, rfl, rfl, rfl⟩
  · rintro ⟨rfl, rfl, rfl, rfl, rfl⟩
    exact ⟨rfl, rfl, rfl, rfl, rfl⟩

/-- A frame of five bytes is read exactly when it is the one that `build_read` builds from its control code. -/
theorem decodeFrame_five_eq_ok_iff (addr : BitVec 7) (m l c ctrl k : Byte) (i : Instr) :
    decodeFrame addr [m, l, c, ctrl, k] = .ok i ↔
      i = .rdreq ctrl ∧ [m, l, c, ctrl, k] = buildRead addr ctrl := by
  simp only [decodeFrame, error_else_eq_ok_iff, buildRead_bytes, ne_eq, not_not, Except.ok.injEq, List.cons.injEq,
    true_and, and_true]
  constructor
  · rintro ⟨rfl, rfl, rfl, rfl, rfl⟩
    exact ⟨rfl, rfl, rfl, rfl, rfl⟩
  · rintro ⟨rfl, rfl, rfl, rfl, rfl⟩
    exact ⟨rfl, rfl, rfl, rfl, rfl⟩

/-- The frames that the decoder reads are those that the two builders build. -/
theorem decodeFrame_eq_ok_iff (addr : BitVec 7) (bytes : List Byte) (i : Instr) :
    decodeFrame addr bytes = .ok i ↔
      (∃ control value, i = .wrframe control value ∧ bytes = buildWrite addr control value) ∨
      (∃ control, i = .rdreq control ∧ bytes = buildRead addr control) := by
  constructor
  · intro h
    match bytes, h with
    | [m, l, c, ctrl, hi, lo, k], h => exact .inl ⟨_, _, (decodeFrame_seven_eq_ok_iff ..).1 h⟩
    | [m, l, c, ctrl, k], h => exact .inr ⟨_, (decodeFrame_five_eq_ok_iff ..).1 h⟩
  · rintro (⟨control, value, rfl, rfl⟩ | ⟨control, rfl, rfl⟩)
    · simp [buildWrite_bytes, decodeFrame_seven_eq_ok_iff]
    · simp [buildRead_bytes, decodeFrame_five_eq_ok_iff]

/-! ### Replies and transport requests (R75, R83) -/

theorem decodeReply_eq_ok_iff (bytes : List Byte) (i : Instr) :
    decodeReply bytes = .ok i ↔
      ∃ ack len tail, i = .rdreply ack len tail ∧ bytes = ack :: len :: tail ∧
        tail.length ≤ (dataLengthOf len).toNat + 1 := by
  match bytes with
  | [] => simp [decodeReply]
  | [_] => simp [decodeReply]
  | a :: l :: tail =>
    rw [decodeReply]
    split_ifs with hl
    · simp [hl, eq_comm]
    · simp [hl]

theorem decodeBusReq_eq_ok_iff (kind : BitVec 1) (n : Nat) (data : List Byte) (i : Instr) :
    decodeBusReq kind n data = .ok i ↔
      (i = .busWrite data ∧ kind = 0 ∧ n = data.length ∧ (n = 5 ∨ n = 7)) ∨
      (i = .busRead n ∧ kind = 1 ∧ data = [] ∧ 1 ≤ n ∧ n ≤ 128) := by
  have hkind : kind = 0 ∨ kind = 1 := by decide +revert
  rcases hkind with rfl | rfl
  · have hread : (0 : BitVec 1) ≠ 1 := by decide
    simp only [decodeBusReq, if_true, error_else_eq_ok_iff, hread]
    grind
  · have hwrite : (1 : BitVec 1) ≠ 0 := by decide
    simp only [decodeBusReq, hwrite, if_false, error_else_eq_ok_iff]
    grind

/-! ### The decoder as a whole -/

/-- Of a frame, a reply and a transport request the reading keeps every byte, so its encoding is the word itself; a
command word is left out for its ignored fields (R30). -/
theorem encode_eq_of_decode {addr : BitVec 7} {w : PortWord} {i : Instr} (hw : ∀ c, w ≠ .cmd c)
    (h : decode addr w = .ok i) : encode addr i = w := by
  cases w with
  | cmd c => exact absurd rfl (hw c)
  | frame bytes =>
    rcases (decodeFrame_eq_ok_iff ..).1 h with ⟨control, value, rfl, rfl⟩ | ⟨control, rfl, rfl⟩
    · rfl
    · rfl
  | reply bytes =>
    obtain ⟨ack, len, tail, rfl, rfl, -⟩ := (decodeReply_eq_ok_iff ..).1 h
    rfl
  | busReq kind n data =>
    rcases (decodeBusReq_eq_ok_iff ..).1 h with ⟨rfl, rfl, rfl, -⟩ | ⟨rfl, rfl, rfl, -⟩
    · rfl
    · rfl

/-- The ranges of a reply and of a transport request are what `Instr.wf` asks of them; the other encodings are read
back whatever their operands are. -/
theorem decode_encode {p : Config.Params} (addr : BitVec 7) {i : Instr} (h : i.wf p = true) :
    decode addr (encode addr i) = .ok i := by
  cases i with
  | write tag control value => rfl
  | read tag control => rfl
  | cancel tag => rfl
  | schedReset => rfl
  | wrframe control value => exact (decodeFrame_eq_ok_iff ..).2 (.inl ⟨control, value, rfl, rfl⟩)
  | rdreq control => exact (decodeFrame_eq_ok_iff ..).2 (.inr ⟨control, rfl, rfl⟩)
  | rdreply ack len tail =>
    exact (decodeReply_eq_ok_iff ..).2 ⟨ack, len, tail, rfl, rfl, by simpa [Instr.wf] using h⟩
  | busWrite data =>
    exact (decodeBusReq_eq_ok_iff ..).2 (.inl ⟨rfl, rfl, rfl, by simpa [Instr.wf] using h⟩)
  | busRead n =>
    exact (decodeBusReq_eq_ok_iff ..).2 (.inr ⟨rfl, rfl, rfl, by simpa [Instr.wf] using h⟩)

/-- Settles O1: the decoder reads every word that the encoder writes. -/
theorem decodeOfEncodeIsTheInstruction : Obligations.DecodeOfEncodeIsTheInstruction :=
  fun _ addr _ hwf => decode_encode addr hwf

/-- Settles O2: what a frame, reply or transport word was read as determines all its bytes. -/
theorem encodeOfDecodeIsTheWord : Obligations.EncodeOfDecodeIsTheWord :=
  fun _ _ _ hw h => encode_eq_of_decode hw h

/-- Settles O3: `decodeCmd` on each of the four selectors, and a two-bit word is one of them. -/
theorem commandSelectorIsTotal : Obligations.CommandSelectorIsTotal := by
  intro addr tag control value
  have hop : ∀ op : BitVec 2, op = 0 ∨ op = 1 ∨ op = 2 ∨ op = 3 := by decide
  exact ⟨rfl, rfl, rfl, rfl, hop⟩

/-- Settles O4: the four accepted words are encodings, and the rejected frame's checksum byte is evaluated. -/
theorem specWordsDecode : Obligations.SpecWordsDecode :=
  have read_back (i : Instr) (h : i.wf Config.suggestedParams = true) : decode 0x37 (encode 0x37 i) = .ok i :=
    decode_encode 0x37 h
  ⟨read_back (.wrframe 0x10 50) rfl, read_back (.rdreq 0x10) rfl, by decide,
    read_back (.rdreply 0x6F 0x83 [0x02, 0x00, 0x10, 0xAF]) rfl, read_back (.busRead 9) rfl⟩

end Sys2Proof
end

section
/-!
PROOFS. The checksum (`40_checksum.md` R105 to R107). XOR into one place of a fold is XOR into its result, and bytes
that end with their own checksum are bytes that fold to zero; the three laws read these facts off.
-/

namespace Sys2Proof.Machine

/-! ### The fold (R9, R101) -/

theorem xorFold_cons (start b : Byte) (bytes : List Byte) :
    xorFold start (b :: bytes) = xorFold (start ^^^ b) bytes := rfl

theorem xorFold_append (start : Byte) (xs ys : List Byte) :
    xorFold start (xs ++ ys) = xorFold (xorFold start xs) ys := List.foldl_append

/-- A mask on the starting value comes out of the fold unchanged. -/
theorem xorFold_xor_start (start mask : Byte) (bytes : List Byte) :
    xorFold (start ^^^ mask) bytes = xorFold start bytes ^^^ mask := by
  induction bytes generalizing start with
  | nil => rfl
  | cons b bytes ih =>
    have hswap : start ^^^ mask ^^^ b = start ^^^ b ^^^ mask := by
      rw [BitVec.xor_assoc, BitVec.xor_comm mask b, ← BitVec.xor_assoc]
    rw [xorFold_cons, xorFold_cons, hswap, ih]

/-- A mask on one folded byte comes out of the fold unchanged. -/
theorem xorFold_xor_byte (start mask b : Byte) (pre post : List Byte) :
    xorFold start (pre ++ (b ^^^ mask) :: post) = xorFold start (pre ++ b :: post) ^^^ mask := by
  rw [xorFold_append, xorFold_append, xorFold_cons, xorFold_cons, ← BitVec.xor_assoc, xorFold_xor_start]

/-- `xorFold_xor_byte` for a byte named by its position. -/
theorem xorFold_set_xor (start mask : Byte) {bytes : List Byte} {i : Nat} (hi : i < bytes.length) :
    xorFold start (bytes.set i (bytes.getD i 0 ^^^ mask)) = xorFold start bytes ^^^ mask := by
  rw [List.set_eq_take_append_cons_drop, if_pos hi, xorFold_xor_byte, List.getD_eq_getElem _ _ hi,
    ← List.drop_eq_getElem_cons hi, List.take_append_drop]

/-- The last byte is the fold of those before it exactly when the whole folds to zero. -/
theorem xorFold_concat_eq_zero_iff (start k : Byte) (bytes : List Byte) :
    xorFold start (bytes ++ [k]) = 0 ↔ xorFold start bytes = k := by
  rw [xorFold_append]
  exact BitVec.xor_eq_zero_iff

/-! ### The two directions (R100, R105) -/

/-- The address is shifted past bit 0, so setting that bit is flipping it. -/
theorem seed_read_eq_xor (addr : BitVec 7) : seed addr .read = seed addr .write ^^^ 0x01#8 := by
  ext i h
  cases i with
  | zero => simp [seed]
  | succ i => simp [seed]

/-- The checksum is a fold from the seed, so it differs where the seeds do. -/
theorem checksum_read_eq_xor (addr : BitVec 7) (bytes : List Byte) :
    checksum bytes (seed addr .read) = checksum bytes (seed addr .write) ^^^ 0x01#8 := by
  rw [seed_read_eq_xor]
  exact xorFold_xor_start ..

/-- Settles O5: XOR with `0x01` leaves no byte as it was. -/
theorem seedDirectionsDiffer : Obligations.SeedDirectionsDiffer := by
  intro addr bytes
  have hne (x : Byte) : x ≠ x ^^^ 0x01#8 := fun h => absurd (xor_left_eq_self_iff.mp h.symm) (by decide)
  have hseed := seed_read_eq_xor addr
  have hsum := checksum_read_eq_xor addr bytes
  exact ⟨hseed, hseed ▸ hne _, hsum, hsum ▸ hne _⟩

/-! ### A built frame (R102, R106) -/

/-- Settles O6: a built frame is `framePrefix` and, as one last byte, the fold of that. -/
theorem builtFrameChecksumRoundTrip : Obligations.BuiltFrameChecksumRoundTrip := by
  intro addr payload dir
  constructor
  · simp [buildFrame]
  · exact (xorFold_concat_eq_zero_iff ..).mpr rfl

/-! ### The checksum test of a reply (R107, R118) -/

/-- On a complete tail the checksum test asks that the fold run over the checksum byte too ends at zero. -/
theorem replyChecksum_take_eq_getD_iff (addr : BitVec 7) {n : Nat} {tail : List Byte} (hlen : tail.length = n + 1) :
    replyChecksum addr n (tail.take n) = tail.getD n 0 ↔ replyChecksum addr n tail = 0 := by
  have hn : n < tail.length := by omega
  have htail : tail = tail.take n ++ [tail.getD n 0] := by
    rw [List.getD_eq_getElem _ _ hn, List.take_concat_get', ← hlen, List.take_length]
  conv_rhs => rw [htail]
  exact (xorFold_concat_eq_zero_iff _ _ (Config.magic1 :: lengthByte n :: tail.take n)).symm

theorem replyChecksum_set_xor (addr : BitVec 7) (n : Nat) (mask : Byte) {tail : List Byte} {i : Nat}
    (hi : i < tail.length) :
    replyChecksum addr n (tail.set i (tail.getD i 0 ^^^ mask)) = replyChecksum addr n tail ^^^ mask :=
  xorFold_set_xor _ mask hi

theorem checkTail_of_checksum_ne (addr : BitVec 7) (control : Byte) {n : Nat} {tail : List Byte}
    (hlen : tail.length = n + 1) (h : replyChecksum addr n (tail.take n) ≠ tail.getD n 0) :
    checkTail addr control n tail = .error .checksumError := by
  rw [checkTail, if_neg (by omega), if_pos h]

/-- The fold of a passing reply is zero; with one byte masked it is the mask. -/
theorem checkTail_set_xor (addr : BitVec 7) (control : Byte) {n i : Nat} {mask : Byte} {tail : List Byte}
    (hlen : tail.length = n + 1) (hi : i ≤ n) (hmask : mask ≠ 0)
    (hpass : replyChecksum addr n (tail.take n) = tail.getD n 0) :
    checkTail addr control n (tail.set i (tail.getD i 0 ^^^ mask)) = .error .checksumError := by
  have hlen' : (tail.set i (tail.getD i 0 ^^^ mask)).length = n + 1 := by rw [List.length_set, hlen]
  have hzero := (replyChecksum_take_eq_getD_iff addr hlen).mp hpass
  refine checkTail_of_checksum_ne addr control hlen' ?_
  rw [Ne, replyChecksum_take_eq_getD_iff addr hlen', replyChecksum_set_xor addr n mask (by omega), hzero]
  simpa using hmask

/-- Two bytes masked alike leave the fold of a reply at zero. -/
theorem replyChecksum_set_xor_set_xor (addr : BitVec 7) {n i j : Nat} {mask : Byte} {tail tail' : List Byte}
    (hlen : tail.length = n + 1) (hi : i ≤ n) (hj : j ≤ n) (hij : i ≠ j)
    (hpass : replyChecksum addr n (tail.take n) = tail.getD n 0)
    (htail' : tail' = (tail.set i (tail.getD i 0 ^^^ mask)).set j (tail.getD j 0 ^^^ mask)) :
    replyChecksum addr n (tail'.take n) = tail'.getD n 0 := by
  have hlen' : tail'.length = n + 1 := by rw [htail', List.length_set, List.length_set, hlen]
  have hother : tail.getD j 0 = (tail.set i (tail.getD i 0 ^^^ mask)).getD j 0 := by
    simp [List.getD_eq_getElem?_getD, List.getElem?_set_ne hij]
  rw [replyChecksum_take_eq_getD_iff addr hlen']
  calc replyChecksum addr n tail'
      = replyChecksum addr n (tail.set i (tail.getD i 0 ^^^ mask)) ^^^ mask := by
        rw [htail', hother, replyChecksum_set_xor addr n mask (by rw [List.length_set]; omega)]
    _ = replyChecksum addr n tail := by
        rw [replyChecksum_set_xor addr n mask (by omega), xor_cancel_right]
    _ = 0 := (replyChecksum_take_eq_getD_iff addr hlen).mp hpass

/-- A mask of one bit within the byte. -/
theorem oneBit_ne_zero {k : Nat} (hk : k < 8) : 1#8 <<< k ≠ 0 := by
  have hall : ∀ k < 8, 1#8 <<< k ≠ 0 := by decide
  exact hall k hk

/-- Settles O7: a flipped bit is a mask of one bit, which comes out of the fold once for each byte that carries it. -/
theorem singleBitSensitivity : Obligations.SingleBitSensitivity := by
  refine ⟨?oneFlip, ?twoFlips, ?caught, ?cancelled⟩
  case oneFlip =>
    intro start pre post b k _
    exact xorFold_xor_byte ..
  case twoFlips =>
    intro start pre mid post b c k _
    rw [xorFold_xor_byte, List.append_assoc, List.cons_append, xorFold_xor_byte, xor_cancel_right,
      List.append_assoc, List.cons_append]
  case caught =>
    intro addr control n i k tail hlen hi hk hpass
    exact checkTail_set_xor addr control hlen hi (oneBit_ne_zero hk) hpass
  case cancelled =>
    intro addr n i j k tail tail' hlen hi hj hij _ hpass htail'
    exact replyChecksum_set_xor_set_xor addr hlen hi hj hij hpass htail'

end Sys2Proof.Machine
end

section
/-!
PROOFS. The frames (`41_frames.md` R111 to R126). The builders' frames byte by byte; then what `parse_response` answers
as one chain of tests on the received bytes, from which the statements about replies are read off; then the first phase
of a reply offered on the bus, which joins the later phases to the one-piece `parse_response`.
-/

namespace Sys2Proof.Machine

/-! ### The builders (R111, R112) -/

/-- The three constant bytes of a write frame are one constant of the fold. -/
theorem checksum_writeBytes (start control hi lo : Byte) :
    checksum [Config.magic1, 0x84, Config.writeCmd, control, hi, lo] start =
      start ^^^ 0xD6#8 ^^^ control ^^^ hi ^^^ lo := by
  have hconst : start ^^^ Config.magic1 ^^^ 0x84#8 ^^^ Config.writeCmd = start ^^^ 0xD6#8 := by
    rw [BitVec.xor_assoc, BitVec.xor_assoc]
    rfl
  rw [← hconst]
  rfl

/-- The three constant bytes of a read request are one constant of the fold. -/
theorem checksum_readBytes (start control : Byte) :
    checksum [Config.magic1, 0x82, Config.readCmd, control] start = start ^^^ 0xD2#8 ^^^ control := by
  have hconst : start ^^^ Config.magic1 ^^^ 0x82#8 ^^^ Config.readCmd = start ^^^ 0xD2#8 := by
    rw [BitVec.xor_assoc, BitVec.xor_assoc]
    rfl
  rw [← hconst]
  rfl

theorem buildWrite_eq (addr : BitVec 7) (control : Byte) (value : BitVec 16) :
    buildWrite addr control value =
      [0x51, 0x84, 0x03, control, hiByte value, loByte value,
        seed addr .write ^^^ 0xD6#8 ^^^ control ^^^ hiByte value ^^^ loByte value] := by
  rw [buildWrite_bytes, checksum_writeBytes]
  rfl

theorem buildRead_eq (addr : BitVec 7) (control : Byte) :
    buildRead addr control = [0x51, 0x82, 0x01, control, seed addr .read ^^^ 0xD2#8 ^^^ control] := by
  rw [buildRead_bytes, checksum_readBytes]
  rfl

/-- Settles O55: each builder is `build_frame` of its payload, and `buildWrite_eq` and `buildRead_eq` give the bytes. -/
theorem buildersReturnTheFrames : Obligations.BuildersReturnTheFrames :=
  fun addr control value => ⟨rfl, buildWrite_eq addr control value, rfl, buildRead_eq addr control⟩

theorem exec_wrframe (s : State) (control : Byte) (value : BitVec 16) :
    exec (.wrframe control value) s = .next { s with built := some (buildWrite s.cfg.addr control value) } := rfl

theorem exec_rdreq (s : State) (control : Byte) :
    exec (.rdreq control) s = .next { s with built := some (buildRead s.cfg.addr control) } := rfl

/-- Settles O17: WRFRAME keeps the frame of `buildWrite_eq`. -/
theorem wrframeReturnsTheWriteFrame : Obligations.WrframeReturnsTheWriteFrame := by
  intro s control value
  rw [exec_wrframe, buildWrite_eq]
  rfl

/-- Settles O18: RDREQ keeps the frame of `buildRead_eq`. -/
theorem rdreqReturnsTheReadRequest : Obligations.RdreqReturnsTheReadRequest := by
  intro s control
  rw [exec_rdreq, buildRead_eq]

/-! ### The steps of `parse_response` (R114 to R122) -/

/-- One link of a chain of tests, each with its own status: the outcome is a result exactly when the test does not
fail and the rest of the chain gives that result. -/
theorem status_else_eq_ok_iff {c : Prop} [Decidable c] {st : Status} {x : Except Status ReadResult} {r : ReadResult} :
    (if c then .error st else x) = .ok r ↔ ¬c ∧ x = .ok r := by
  by_cases h : c
  · simp [h]
  · simp [h]

/-- Behind a test the rest of the chain may use that the test did not fail. -/
theorem status_else_congr {c : Prop} [Decidable c] {st : Status} {x y : Except Status ReadResult} (h : ¬c → x = y) :
    (if c then .error st else x) = if c then .error st else y :=
  if_ctx_congr Iff.rfl (fun _ => rfl) h

theorem ackAccepted_iff {addr : BitVec 7} {ack : Byte} : ackAccepted addr ack = true ↔ ack = seed addr .read :=
  beq_iff_eq

theorem lengthAccepted_iff {strict : Bool} {maxDataLen : BitVec 7} {len : Byte} :
    lengthAccepted strict maxDataLen len = true ↔
      (strict = true → len.getLsbD 7 = true) ∧ (dataLengthOf len).toNat ≤ maxDataLen.toNat := by
  cases strict <;> simp [lengthAccepted]

theorem lengthRejected_iff {strict : Bool} {maxDataLen : BitVec 7} {len : Byte} :
    lengthAccepted strict maxDataLen len = false ↔
      (strict = true ∧ len.getLsbD 7 = false) ∨ maxDataLen.toNat < (dataLengthOf len).toNat := by
  rw [← Bool.not_eq_true, lengthAccepted_iff, not_and_or, Classical.not_imp, Bool.not_eq_true, not_le]

/-- The data bytes of a tail stand at the same index in the tail. -/
theorem getD_take_of_lt {n i : Nat} (tail : List Byte) (h : i < n) : (tail.take n).getD i 0 = tail.getD i 0 := by
  simp only [List.getD_eq_getElem?_getD, List.getElem?_take_of_lt h]

/-- Steps 3 to 7 on the bytes of the tail read (R116 to R122): each index is below `data_length` where it is read, so
the data bytes are bytes of the tail. -/
theorem checkTail_eq_tests (addr : BitVec 7) (control : Byte) (n : Nat) (tail : List Byte) :
    checkTail addr control n tail =
      if tail.length < n + 1 then .error .truncatedResponse
      else if replyChecksum addr n (tail.take n) ≠ tail.getD n 0 then .error .checksumError
      else if n < 1 then .error .truncatedResponse
      else if tail.getD 0 0 ≠ Config.replyMarker then .error .unexpectedReplyType
      else if n < 3 then .error .truncatedResponse
      else if tail.getD 2 0 ≠ control then .error .controlMismatch
      else if n < 8 then .error .truncatedResponse
      else .ok
        { maxValue := be16 (tail.getD 4 0) (tail.getD 5 0), value := be16 (tail.getD 6 0) (tail.getD 7 0) } := by
  rw [checkTail]
  refine status_else_congr fun hlong => status_else_congr fun _ => ?_
  have hlen : (tail.take n).length = n := List.length_take_of_le (by omega)
  have hget (i : Nat) (hi : i < n) : (tail.take n).getD i 0 = tail.getD i 0 := getD_take_of_lt tail hi
  rw [readFields, hlen]
  refine status_else_congr fun h1 => ?_
  rw [hget 0 (by omega)]
  refine status_else_congr fun _ => status_else_congr fun h3 => ?_
  rw [hget 2 (by omega)]
  refine status_else_congr fun _ => status_else_congr fun h8 => ?_
  rw [hget 4 (by omega), hget 5 (by omega), hget 6 (by omega), hget 7 (by omega)]

theorem checkTail_eq_ok_iff (addr : BitVec 7) (control : Byte) (n : Nat) (tail : List Byte) (r : ReadResult) :
    checkTail addr control n tail = .ok r ↔
      8 ≤ n ∧ n + 1 ≤ tail.length ∧ replyChecksum addr n (tail.take n) = tail.getD n 0 ∧
        tail.getD 0 0 = Config.replyMarker ∧ tail.getD 2 0 = control ∧
        r.value = be16 (tail.getD 6 0) (tail.getD 7 0) ∧ r.maxValue = be16 (tail.getD 4 0) (tail.getD 5 0) := by
  obtain ⟨value, maxValue⟩ := r
  simp only [checkTail_eq_tests, status_else_eq_ok_iff, Except.ok.injEq, ReadResult.mk.injEq, ne_eq, not_not, not_lt]
  constructor
  · rintro ⟨hlen, hcs, -, hmark, -, hctrl, hn, hv, hm⟩
    exact ⟨hn, hlen, hcs, hmark, hctrl, hv.symm, hm.symm⟩
  · rintro ⟨hn, hlen, hcs, hmark, hctrl, hv, hm⟩
    exact ⟨hlen, hcs, by omega, hmark, by omega, hctrl, hn, hv.symm, hm.symm⟩

/-- From `data_length = 8` up a reply whose checksum is right is decided by six of its data bytes (R123). -/
theorem checkTail_of_checksum (addr : BitVec 7) (control : Byte) {n : Nat} {tail : List Byte} (hn : 8 ≤ n)
    (hlen : n + 1 ≤ tail.length) (hcs : replyChecksum addr n (tail.take n) = tail.getD n 0) :
    checkTail addr control n tail =
      if tail.getD 0 0 ≠ Config.replyMarker then .error .unexpectedReplyType
      else if tail.getD 2 0 ≠ control then .error .controlMismatch
      else .ok
        { maxValue := be16 (tail.getD 4 0) (tail.getD 5 0), value := be16 (tail.getD 6 0) (tail.getD 7 0) } := by
  rw [checkTail_eq_tests, if_neg (by omega), if_neg (not_not.mpr hcs), if_neg (by omega : ¬n < 1),
    if_neg (by omega : ¬n < 3), if_neg (by omega : ¬n < 8)]

section

variable {addr maxDataLen : BitVec 7} {strict : Bool} {ack len : Byte} (control : Byte) (tail : List Byte)

theorem parseResponse_of_ack_rejected (ha : ackAccepted addr ack = false) :
    parseResponse addr maxDataLen strict control ack len tail = .error .ackInvalid := by
  simp [parseResponse, ha]

theorem parseResponse_of_length_rejected (ha : ackAccepted addr ack = true)
    (hl : lengthAccepted strict maxDataLen len = false) :
    parseResponse addr maxDataLen strict control ack len tail = .error .malformedLength := by
  simp [parseResponse, ha, hl]

theorem parseResponse_of_accepted (ha : ackAccepted addr ack = true)
    (hl : lengthAccepted strict maxDataLen len = true) :
    parseResponse addr maxDataLen strict control ack len tail =
      checkTail addr control (dataLengthOf len).toNat tail := by
  simp [parseResponse, ha, hl]

end

theorem parseResponse_eq_ok_iff {addr maxDataLen : BitVec 7} {strict : Bool} {control ack len : Byte}
    {tail : List Byte} {r : ReadResult} :
    parseResponse addr maxDataLen strict control ack len tail = .ok r ↔
      ackAccepted addr ack = true ∧ lengthAccepted strict maxDataLen len = true ∧
        checkTail addr control (dataLengthOf len).toNat tail = .ok r := by
  simp only [parseResponse, status_else_eq_ok_iff, Bool.not_eq_true', Bool.not_eq_false]

/-! ### The whole of `parse_response` (R124, R125) -/

/-- Settles O8: the three parts of `parse_response`, each by its own characterisation. -/
theorem replyAcceptedExactlyWhenAllTestsPass : Obligations.ReplyAcceptedExactlyWhenAllTestsPass := by
  intro addr maxDataLen strict control ack len tail r
  rw [parseResponse_eq_ok_iff, ackAccepted_iff, lengthAccepted_iff, checkTail_eq_ok_iff, and_assoc]
  rfl

/-- Taking the low seven bits is masking them. -/
theorem dataLengthOf_toNat (len : Byte) : (dataLengthOf len).toNat = (len &&& 0x7F#8).toNat := by
  rw [dataLengthOf, BitVec.extractLsb'_toNat, BitVec.toNat_and, Nat.shiftRight_zero]
  exact (Nat.and_two_pow_sub_one_eq_mod len.toNat 7).symm

/-- The test of the length byte as the two tests of R115. -/
theorem ite_lengthAccepted {α : Type} (strict : Bool) (maxDataLen : BitVec 7) (len : Byte) (x y : α) :
    (if !lengthAccepted strict maxDataLen len then x else y) =
      if strict = true ∧ len.getLsbD 7 = false then x
      else if maxDataLen.toNat < (dataLengthOf len).toNat then x else y := by
  simp only [Bool.not_eq_true', lengthRejected_iff, ite_or]

/-- Settles O54: the first two tests as R114 and R115 write them, then the chain of `checkTail_eq_tests`. -/
theorem replyOutcomeIsTheFirstFailingTest : Obligations.ReplyOutcomeIsTheFirstFailingTest := by
  intro addr maxDataLen strict control ack len tail n hn
  have hack : (!ackAccepted addr ack) = true ↔ ack ≠ (addr.zeroExtend 8 <<< 1 ||| 1#8) := by
    rw [Bool.not_eq_true', ← Bool.not_eq_true, ackAccepted_iff]
    rfl
  rw [← dataLengthOf_toNat] at hn
  rw [parseResponse, ite_lengthAccepted, ← hn, checkTail_eq_tests]
  exact if_congr hack rfl rfl

/-- Settles O9: up to the control code the tests do not name it, so they pass again, and that one fails. -/
theorem controlBindingIsExact : Obligations.ControlBindingIsExact := by
  intro addr maxDataLen strict control other ack len tail r hok hother
  obtain ⟨ha, hl, htail⟩ := parseResponse_eq_ok_iff.mp hok
  obtain ⟨hn, hlen, hcs, hmark, hctrl, -⟩ := (checkTail_eq_ok_iff ..).mp htail
  rw [parseResponse_of_accepted other tail ha hl, checkTail_of_checksum addr other hn hlen hcs,
    if_neg (not_not.mpr hmark), if_pos (hctrl ▸ hother.symm)]

/-! ### What a reply's other bytes and its length may be (R123) -/

/-- The length byte of a frame is read back. -/
theorem dataLengthOf_lengthByte {n : Nat} (h : n < 128) : (dataLengthOf (lengthByte n)).toNat = n := by
  have hall : ∀ n < 128, (dataLengthOf (lengthByte n)).toNat = n := by decide
  exact hall n h

theorem lengthByte_flag (n : Nat) : (lengthByte n).getLsbD 7 = true := by
  simp [lengthByte, Config.lengthFlag]

/-- The bytes of a reply for `control` with `data_length = n + 3`, all of them zero that need not be otherwise. -/
def zeroReplyData (control : Byte) (n : Nat) : List Byte :=
  Config.replyMarker :: 0 :: control :: List.replicate n 0

/-- Data bytes followed by their own checksum pass the checksum test. -/
theorem replyChecksum_concat (addr : BitVec 7) (data : List Byte) (k : Byte) :
    replyChecksum addr data.length ((data ++ [k]).take data.length) = (data ++ [k]).getD data.length 0 ↔
      replyChecksum addr data.length data = k := by
  simp

/-- Every `data_length` from 8 up has a reply that is accepted. -/
theorem checkTail_zeroReply (addr : BitVec 7) (control : Byte) {n : Nat} (hn : 5 ≤ n) :
    ∃ tail r, tail.length = n + 3 + 1 ∧ checkTail addr control (n + 3) tail = .ok r := by
  have hlen : (zeroReplyData control n).length = n + 3 := by simp [zeroReplyData]
  have hcs := (replyChecksum_concat addr (zeroReplyData control n) _).mpr rfl
  rw [hlen] at hcs
  exact ⟨zeroReplyData control n ++ [_], ⟨_, _⟩, by simp [hlen],
    (checkTail_eq_ok_iff ..).mpr ⟨by omega, by simp [hlen], hcs, rfl, rfl, rfl, rfl⟩⟩

/-- Settles O10: `checkTail_of_checksum` names the six bytes, and `zeroReplyData` is a reply of each length. -/
theorem unexaminedReplyFields : Obligations.UnexaminedReplyFields := by
  refine ⟨?sixBytes, ?checksum, ?lengths⟩
  case sixBytes =>
    intro addr control n n' tail tail' hn hn' hlen hlen' hcs hcs' hsame
    rw [checkTail_of_checksum addr control hn hlen hcs, checkTail_of_checksum addr control hn' hlen' hcs',
      hsame 0 (by decide), hsame 2 (by decide), hsame 4 (by decide), hsame 5 (by decide), hsame 6 (by decide),
      hsame 7 (by decide)]
  case checksum =>
    intro addr n i data d hi
    exact replyChecksum_set_xor addr n d hi
  case lengths =>
    intro addr maxDataLen strict control n hn hmax
    have hdl : (dataLengthOf (lengthByte n)).toNat = n := dataLengthOf_lengthByte (by omega)
    obtain ⟨m, rfl⟩ : ∃ m, n = m + 3 := ⟨n - 3, by omega⟩
    obtain ⟨tail, r, hlen, hok⟩ := checkTail_zeroReply addr control (n := m) (by omega)
    refine ⟨seed addr .read, lengthByte (m + 3), tail, r, hdl, hlen, parseResponse_eq_ok_iff.mpr
      ⟨ackAccepted_iff.mpr rfl, lengthAccepted_iff.mpr ⟨fun _ => lengthByte_flag _, hdl.trans_le hmax⟩, ?_⟩⟩
    rw [hdl, hok]

/-! ### One flipped bit (R126) -/

theorem ackAccepted_xor {addr : BitVec 7} {ack mask : Byte} (ha : ackAccepted addr ack = true) (hmask : mask ≠ 0) :
    ackAccepted addr (ack ^^^ mask) = false := by
  rw [← Bool.not_eq_true, ackAccepted_iff, ← ackAccepted_iff.mp ha, xor_left_eq_self_iff]
  exact hmask

/-- With bit 7 set the length byte is tested against `MAX_DATA_LEN` alone, and the tail is read against it. -/
theorem parseResponse_of_flagged {addr maxDataLen : BitVec 7} {strict : Bool} {control ack len : Byte} {n : Nat}
    (tail : List Byte) (ha : ackAccepted addr ack = true) (hflag : len.getLsbD 7 = true)
    (hn : (dataLengthOf len).toNat = n) :
    parseResponse addr maxDataLen strict control ack len tail =
      if maxDataLen.toNat < n then .error .malformedLength
      else if tail.length < n + 1 then .error .truncatedResponse
      else checkTail addr control n tail := by
  by_cases hmax : maxDataLen.toNat < n
  · rw [if_pos hmax]
    exact parseResponse_of_length_rejected control tail ha (lengthRejected_iff.mpr (.inr (by omega)))
  · have hl : lengthAccepted strict maxDataLen len = true := lengthAccepted_iff.mpr ⟨fun _ => hflag, by omega⟩
    rw [if_neg hmax, parseResponse_of_accepted control tail ha hl, hn]
    by_cases hshort : tail.length < n + 1
    · rw [if_pos hshort, checkTail, if_pos hshort]
    · rw [if_neg hshort]

/-- The fold over a reply without data is the reply marker at one address only, the corner case of R126. -/
theorem replyChecksum_nil_eq_marker_iff (addr : BitVec 7) :
    replyChecksum addr 0 [] = Config.replyMarker ↔ addr = 0x69 := by
  decide +revert

/-- A reply without data is too short (R119), where its checksum is right. -/
theorem checkTail_zero (addr : BitVec 7) (control k : Byte) :
    checkTail addr control 0 [k] =
      if replyChecksum addr 0 [] = k then .error .truncatedResponse else .error .checksumError := by
  simp [checkTail_eq_tests]

/-- Settles O11: the ack byte is one value; a length byte with bit 7 is decided by `parseResponse_of_flagged`, and
without it by the strict flag; a flip in the tail is `checkTail_set_xor`. -/
theorem oneFlippedBitInAReply : Obligations.OneFlippedBitInAReply := by
  intro addr maxDataLen strict control ack tail r hok hlen
  obtain ⟨ha, hl, htail⟩ := parseResponse_eq_ok_iff.mp hok
  obtain ⟨-, -, hcs, hmark, -⟩ := (checkTail_eq_ok_iff ..).mp htail
  have hmax : 8 ≤ maxDataLen.toNat := (lengthAccepted_iff.mp hl).2
  refine ⟨?ackByte, ?flagBit, ?noData, ?otherLengths, ?tailByte⟩
  case ackByte =>
    intro k hk
    exact parseResponse_of_ack_rejected control tail (ackAccepted_xor ha (oneBit_ne_zero hk))
  case flagBit =>
    cases strict with
    | true => exact parseResponse_of_length_rejected control tail ha rfl
    | false =>
      have hl' : lengthAccepted false maxDataLen 0x08 = true := lengthAccepted_iff.mpr ⟨nofun, hmax⟩
      exact parseResponse_eq_ok_iff.mpr ⟨ha, hl', htail⟩
  case noData =>
    have hone : tail.take 1 = [Config.replyMarker] := by
      obtain ⟨k, rest, rfl⟩ := List.exists_cons_of_length_eq_add_one hlen
      exact congrArg (fun k => [k]) hmark
    have hl' : lengthAccepted strict maxDataLen 0x80 = true :=
      lengthAccepted_iff.mpr ⟨fun _ => rfl, Nat.zero_le _⟩
    have hzero : (dataLengthOf 0x80).toNat = 0 := rfl
    rw [parseResponse_of_accepted control _ ha hl', hone, hzero, checkTail_zero]
    simp only [replyChecksum_nil_eq_marker_iff]
  case otherLengths =>
    have hread : ∀ p ∈ [(0, 9), (1, 10), (2, 12), (4, 24), (5, 40), (6, 72)],
        (dataLengthOf (0x88#8 ^^^ 1#8 <<< p.1)).toNat = p.2 ∧ (0x88#8 ^^^ 1#8 <<< p.1).getLsbD 7 = true := by decide
    intro p hp
    obtain ⟨hn, hflag⟩ := hread p hp
    exact ⟨hn, fun tail' => parseResponse_of_flagged tail' ha hflag hn⟩
  case tailByte =>
    intro i k hi hk
    rw [parseResponse_of_accepted control _ ha hl]
    exact checkTail_set_xor addr control hlen hi (oneBit_ne_zero hk) hcs

/-! ### A reply offered from its first byte on (R113, R170) -/

/-- The ack byte is loaded into its parser register, as `State.ackAnswered` writes it. -/
def State.loadAck (s : State) (a : Byte) : State := { s with rxAck := some a }

@[simp] theorem State.loadAck_cfg (s : State) (a : Byte) : (s.loadAck a).cfg = s.cfg := rfl
@[simp] theorem State.loadAck_sched (s : State) (a : Byte) : (s.loadAck a).sched = s.sched := rfl

/-- The end of a transaction empties the register again. -/
@[simp] theorem State.ended_loadAck (s : State) (a : Byte) (d : Dir) (obs : List Obs) :
    (s.loadAck a).ended d obs = s.ended d obs := rfl

theorem State.ackAnswered_of_rejected {s : State} (c : Cur) {a : Byte} (bs : List Byte)
    (ha : ackAccepted s.cfg.addr a = false) :
    s.ackAnswered c (.ok (a :: bs)) =
      s.ended c.dir [.completed (completionOfReply c.entry.tag (.error .ackInvalid))] := by
  simp only [State.ackAnswered, ha, State.raise_eq_ended]
  rfl

theorem State.ackAnswered_of_accepted {s : State} (c : Cur) {a : Byte} (bs : List Byte)
    (ha : ackAccepted s.cfg.addr a = true) :
    s.ackAnswered c (.ok (a :: bs)) = (s.loadAck a).nextRead c .phLen 1 :=
  if_pos ha

section

variable {s : State} {c : Cur} (hs : s.sched = .dispatching) (hc : s.cur = some c) (hph : c.phase = .phAck)
include hs hc hph

/-- In `PH_ACK` a rejected ack byte ends the operation. -/
theorem State.offer_ack_of_rejected (k : Nat) (a : Byte) (bs : List Byte) (ha : ackAccepted s.cfg.addr a = false) :
    s.offer (k + 1) (a :: bs) =
      .next (s.ended c.dir [.responded, .completed (completionOfReply c.entry.tag (.error .ackInvalid))]).settle := by
  have hu : (s.emit .responded).answer c (.bytes ((a :: bs).take 1)) =
      .next (s.ended c.dir [.responded, .completed (completionOfReply c.entry.tag (.error .ackInvalid))]) := by
    simp [State.answer, hph, BusRsp.readAnswer, State.ackAnswered_of_rejected, ha]
  exact State.offer_of_ended hs hc (by rw [hph]; rfl) hu rfl

/-- In `PH_ACK` an accepted ack byte leads to the length read, which is offered the bytes after it. -/
theorem State.offer_ack_of_accepted (k : Nat) (a : Byte) (bs : List Byte) (ha : ackAccepted s.cfg.addr a = true) :
    s.offer (k + 1) (a :: bs) = State.offer k bs (((s.emit .responded).loadAck a).nextRead c .phLen 1) := by
  have hu : (s.emit .responded).answer c (.bytes ((a :: bs).take 1)) =
      .next (((s.emit .responded).loadAck a).nextRead c .phLen 1) := by
    simp [State.answer, hph, BusRsp.readAnswer, State.ackAnswered_of_accepted, ha]
  have hon : s.readsOn (((s.emit .responded).loadAck a).nextRead c .phLen 1) = true := by
    simp [State.readsOn, hc, hph]
  exact State.offer_of_readsOn hs hc (by rw [hph]; rfl) hu (by simpa using hs) hon

end

/-- Settles O19: along the phases, the first byte rejected decides the status as it does in `parse_response`. -/
theorem replyByPhasesRefinesParseResponse : Obligations.ReplyByPhasesRefinesParseResponse := by
  intro s c ack len tail hs hc hkind hph
  have hdir : c.dir = .read := by rw [Cur.dir, hkind]; rfl
  have hexec : exec (.rdreply ack len tail) s = s.offer 3 (ack :: len :: tail) := rfl
  rw [hexec, ← hdir]
  cases ha : ackAccepted s.cfg.addr ack with
  | false =>
    rw [State.offer_ack_of_rejected hs hc hph 2 ack _ ha, parseResponse_of_ack_rejected _ _ ha]
    rfl
  | true =>
    rw [State.offer_ack_of_accepted hs hc hph 2 ack _ ha]
    have hs' : (((s.emit .responded).loadAck ack).nextRead c .phLen 1).sched = .dispatching := by simpa using hs
    have hc' := ((s.emit .responded).loadAck ack).nextRead_cur c .phLen 1
    cases hl : lengthAccepted s.cfg.strictLengthFlag s.cfg.maxDataLen len with
    | false =>
      rw [State.offer_len_of_rejected hs' hc' 1 len tail rfl (by simpa using hl),
        parseResponse_of_length_rejected _ _ ha hl]
      simp [Cur.dir]
    | true =>
      rw [State.offer_len_of_accepted hs' hc' 0 len tail rfl (by simpa using hl),
        parseResponse_of_accepted _ _ ha hl]
      simp [Cur.dir]

end Sys2Proof.Machine
end

section
/-!
PROOFS. The scheduler (`42_scheduler.md` R130 to R149). First what each operation of the scheduler answers where its
condition holds, one equation per case: the internal transitions, an accepted command, a tick. The statements about
commands, dispatches and ticks are read off these equations.
-/

namespace Sys2Proof.Machine

open Host (Outcome)

/-! ### Where a dispatch or an expiry is enabled (R135, R141) -/

theorem State.atDispatchPoint_iff (s : State) :
    s.atDispatchPoint = true ↔ s.sched = .idle ∨ (s.sched = .waiting ∧ s.waitLeft = 0) := by
  unfold State.atDispatchPoint
  cases s.sched <;> simp

theorem State.free_of_atDispatchPoint {s : State} (hp : s.atDispatchPoint = true) : s.sched ≠ .dispatching := by
  obtain hs | ⟨hs, -⟩ := s.atDispatchPoint_iff.mp hp <;> simp [hs]

/-- With the bus free there is no follow-up to go on (R170, R171). -/
theorem State.owedRead_of_free {s : State} (hs : s.sched ≠ .dispatching) : s.owedRead = none := by
  unfold State.owedRead
  split
  · contradiction
  · rfl

/-- While the delay runs nothing is urgent. -/
theorem State.settle_of_running {s : State} (hs : s.sched = .waiting) (hw : 1 ≤ s.waitLeft) : s.settle = s :=
  State.settle_of_quiescent s ⟨by simp [hs], fun _ => hw⟩

theorem State.settle_of_expired {s : State} (hs : s.sched = .waiting) (hw : s.waitLeft = 0) (hq : s.queue = []) :
    s.settle = s.expireToIdle := by
  simp [State.settle, hs, hw, hq]

theorem State.settle_of_head {s : State} {e : Entry} {q : List Entry} (hp : s.atDispatchPoint = true)
    (hq : s.queue = e :: q) : s.settle = ({ s with queue := q }).dispatch e := by
  rw [← State.dispatchHead_cons s e q hq]
  obtain hs | ⟨hs, hw⟩ := s.atDispatchPoint_iff.mp hp
  · simp [State.settle, hs]
  · simp [State.settle, hs, hw, hq]

/-! ### The two transport requests (R130, R136, R169) -/

theorem State.dueRequest_of_head {s : State} {e : Entry} {q : List Entry} (hp : s.atDispatchPoint = true)
    (hq : s.queue = e :: q) : s.dueRequest = some e.request := by
  simp [State.dueRequest, hp, hq]

theorem Entry.request_of_write {e : Entry} (hk : e.kind ≠ .txRdfollow) :
    e.request = (BusReq.busWrite e.frame).word := by
  unfold Entry.request
  cases h : e.kind with
  | txWrite => rfl
  | txRdreq => rfl
  | txRdfollow => contradiction

theorem Entry.request_of_follow {e : Entry} (hk : e.kind = .txRdfollow) : e.request = (BusReq.busRead 1).word := by
  simp [Entry.request, hk]

/-- Settles O22: the request owed is that of the head, and with the bus free no next read is owed in its place. -/
theorem dispatchOfTheHead : Obligations.DispatchOfTheHead := by
  intro s e q hpoint hq
  have hp := s.atDispatchPoint_iff.mpr hpoint
  have hdue := State.dueRequest_of_head hp hq
  refine ⟨fun hk => ?_, fun hk => ?_⟩
  · rw [Entry.request_of_write hk] at hdue
    calc exec (.busWrite e.frame) s
      _ = .next s.dispatchHead := if_pos hdue
      _ = _ := by rw [State.dispatchHead_cons s e q hq, State.dispatch_of_write _ e hk]
  · rw [Entry.request_of_follow hk] at hdue
    calc exec (.busRead 1) s
      _ = .next s.dispatchHead := by
        simp [exec, execBusRead, hdue, State.owedRead_of_free (State.free_of_atDispatchPoint hp)]
      _ = _ := by rw [State.dispatchHead_cons s e q hq, State.dispatch_of_follow _ e hk]

/-- Settles O24: between events the block owes no request (`State.Inv.dueRequest_eq_none`). -/
theorem noRequestWithoutDispatch : Obligations.NoRequestWithoutDispatch := by
  intro s data n hinv
  have not_due : ∀ w, s.dueRequest ≠ some w := by simp [hinv.dueRequest_eq_none]
  exact ⟨if_neg (not_due _), if_neg (not_due _)⟩

/-! ### The end of a transaction and what follows it (R138, R141) -/

theorem State.ended_waitLeft (s : State) (d : Dir) (obs : List Obs) :
    (s.ended d obs).waitLeft = s.cfg.delayAfter d := by
  cases d <;> rfl

/-- After a delay of 0 the head is dispatched in the reaction that ends the transaction. -/
theorem State.settle_ended_of_head {s : State} {d : Dir} {e : Entry} {q : List Entry} (obs : List Obs)
    (hd : s.cfg.delayAfter d = 0) (hq : s.queue = e :: q) :
    (s.ended d obs).settle = ({ s.ended d obs with queue := q }).dispatch e :=
  State.settle_of_head ((State.atDispatchPoint_iff _).mpr (.inr ⟨rfl, (s.ended_waitLeft d obs).trans hd⟩)) hq

section

variable {s u : State} {c : Cur} (hs : s.sched = .dispatching) (hc : s.cur = some c)
include hs hc

theorem State.respond_ok_of_answer (hu : (s.emit .responded).answer c .ok = .next u) :
    s.respond .ok = .next u.settle := by
  simp [State.respond, hs, hc, BusRsp.inRange, hu]

/-- `Ok` to the `BUS_WRITE` of a WRITE completes it (R163). -/
theorem State.respond_ok_of_write (hph : c.phase = .phWr) (hk : c.entry.kind = .txWrite) :
    s.respond .ok = .next (s.ended .write [.responded, .completed (.plain c.entry.tag .ok)]).settle := by
  have hdir : c.dir = .write := by rw [Cur.dir, hk]; rfl
  refine State.respond_ok_of_answer hs hc ?_
  simp [State.answer, hph, hk, BusRsp.writeAnswer, State.writeAnswered, State.complete_finishTransaction, hdir]

/-- `Ok` to the `BUS_WRITE` of a read request queues its follow-up (R164). -/
theorem State.respond_ok_of_request (hph : c.phase = .phWr) (hk : c.entry.kind = .txRdreq) :
    s.respond .ok = .next ((s.enqueue c.followUp).ended .write [.responded]).settle := by
  have hdir : c.dir = .write := by rw [Cur.dir, hk]; rfl
  have hemit : (s.emit .responded).enqueue c.followUp = (s.enqueue c.followUp).emit .responded := rfl
  refine State.respond_ok_of_answer hs hc ?_
  simp [State.answer, hph, hk, BusRsp.writeAnswer, State.requestAnswered, hemit,
    State.finishTransaction_eq_ended, hdir]

end

/-- Settles O56: the state after the end is `Waiting` with the delay loaded, so each clause is one case of `settle`; the
two reactions are ends of this kind. -/
theorem zeroDelayGoesOnInTheSameReaction : Obligations.ZeroDelayGoesOnInTheSameReaction := by
  refine ⟨fun s d obs delay hdelay => ?_, ?_, ?_⟩
  · have hcfg : delay = s.cfg.delayAfter d := by cases d <;> exact hdelay
    rw [hcfg]
    have hw := s.ended_waitLeft d obs
    refine ⟨fun hpos => State.settle_of_running rfl (hw ▸ hpos), fun h0 hq => ?_, fun e q h0 hq hk => ?_,
      fun e q h0 hq hk => ?_⟩
    · rw [State.settle_of_expired rfl (hw.trans h0) hq]
      rfl
    · rw [State.settle_ended_of_head obs h0 hq, State.dispatch_of_write _ e hk]
      rfl
    · rw [State.settle_ended_of_head obs h0 hq, State.dispatch_of_follow _ e hk]
      rfl
  · intro s c e q hs hc hph hkind h0 hq hk
    refine ⟨_, State.respond_ok_of_write hs hc hph hkind, ?_⟩
    rw [State.settle_ended_of_head (d := .write) _ h0 hq, State.dispatch_of_write _ e hk]
    exact ⟨rfl, rfl, rfl, List.append_assoc ..⟩
  · intro s c hs hc hph hkind h0 hq
    have hq' : (s.enqueue c.followUp).queue = [c.followUp] := by simp [hq]
    refine ⟨_, State.respond_ok_of_request hs hc hph hkind, ?_⟩
    rw [State.settle_ended_of_head (s := s.enqueue c.followUp) (d := .write) _ h0 hq',
      State.dispatch_of_follow _ c.followUp rfl]
    exact ⟨rfl, rfl, rfl, rfl, List.append_assoc ..⟩

/-! ### Acceptance of a command (R132) -/

theorem State.accept_of_room {s : State} {n : Nat} (hn : s.occupancy = some n) (hroom : n < s.params.queueDepth)
    (e : Entry) : s.accept e = .next ((s.emit (.accepted e.tag)).enqueue e).settle := by
  simp [State.accept, hn, hroom]

theorem State.accept_of_full {s : State} {n : Nat} (hn : s.occupancy = some n) (hfull : s.params.queueDepth ≤ n)
    (e : Entry) : s.accept e = .fault .cmdNotReady := by
  simp [State.accept, hn, hfull]

theorem execCancel_of_mem {s : State} {tag : Tag} {pre post : List Entry} {e : Entry}
    (hq : s.queue = pre ++ e :: post) (he : e.tag = tag) (hpre : ∀ x ∈ pre, x.tag ≠ tag) :
    execCancel tag s = .next (({ s with queue := pre ++ post }).raiseCancelled tag) := by
  have herase : s.queue.eraseP (fun x => x.tag == tag) = pre ++ post := by
    rw [hq, List.eraseP_append_right _ (by simpa using hpre), List.eraseP_cons_of_pos (by simpa using he)]
  rw [execCancel, if_pos (by simp [hq, he]), herase]

theorem execCancel_of_not_mem {s : State} {tag : Tag} (h : ∀ x ∈ s.queue, x.tag ≠ tag) :
    execCancel tag s = .next s :=
  if_neg (by simpa using h)

theorem execCancel_total (tag : Tag) (s : State) : ∃ t, execCancel tag s = .next t := by
  unfold execCancel
  split <;> exact ⟨_, rfl⟩

theorem execSchedReset_of_waiting {s : State} (hs : s.sched = .waiting) :
    execSchedReset s = .next { s.cancelAll with waitLeft := 0, lastDir := none, sched := .idle } := by
  simp [execSchedReset, hs]

theorem execSchedReset_of_not_waiting {s : State} (hs : s.sched ≠ .waiting) :
    execSchedReset s = .next s.cancelAll := by
  unfold execSchedReset
  split
  · contradiction
  · rfl

theorem execSchedReset_total (s : State) : ∃ t, execSchedReset s = .next t := by
  unfold execSchedReset
  split <;> exact ⟨_, rfl⟩

/-- Settles O14: the occupancy decides an acceptance as it does `cmd_ready`; the other two commands have a step in every
state. -/
theorem acceptedExactlyWhenReady : Obligations.AcceptedExactlyWhenReady := by
  intro s n hocc
  have hn : s.occupancy = some n := by
    obtain ⟨hs, rfl⟩ | ⟨hs, c, hc, rfl⟩ := hocc
    · exact State.occupancy_of_free hs
    · exact State.occupancy_of_onBus hs hc
  have haccept : ∀ e, (n < s.params.queueDepth → ∃ t, s.accept e = .next t) ∧
      (s.params.queueDepth ≤ n → s.accept e = .fault .cmdNotReady) := fun e =>
    ⟨fun hroom => ⟨_, State.accept_of_room hn hroom e⟩, fun hfull => State.accept_of_full hn hfull e⟩
  exact ⟨by simp [State.cmdReady, hn], fun _ _ _ => haccept _, fun _ _ => haccept _,
    fun tag => execCancel_total tag s, execSchedReset_total s⟩

/-- Settles O15: the first entry of the tag is the one that CANCEL takes. -/
theorem cancelRemovesTheFirstOfItsTag : Obligations.CancelRemovesTheFirstOfItsTag := by
  intro s tag
  exact ⟨fun pre post e hq he hpre => execCancel_of_mem hq he hpre, execCancel_of_not_mem⟩

/-- A cancelled queue leaves room, but for the slot that a read request on the bus reserves. -/
theorem State.cmdReady_cancelAll_onBus {s : State} {c : Cur} (hdepth : 1 ≤ s.params.queueDepth)
    (hs : s.sched = .dispatching) (hc : s.cur = some c) :
    s.cancelAll.cmdReady = false ↔ c.entry.kind = .txRdreq ∧ s.params.queueDepth = 1 := by
  have hocc := State.occupancy_of_onBus (s := s.cancelAll) (by simpa using hs) (by simpa using hc)
  have hready : s.cancelAll.cmdReady =
      decide ((if c.entry.kind = .txRdreq then 1 else 0) < s.params.queueDepth) := by
    simp [State.cmdReady, hocc]
  rw [hready, decide_eq_false_iff_not]
  split
  · rename_i hk; exact ⟨fun hfull => ⟨hk, by omega⟩, fun ⟨_, hone⟩ => by omega⟩
  · rename_i hk; exact ⟨fun hfull => absurd hdepth hfull, fun ⟨hreq, _⟩ => absurd hreq hk⟩

theorem State.cmdReady_of_empty {s : State} (hdepth : 1 ≤ s.params.queueDepth) (hs : s.sched ≠ .dispatching)
    (hq : s.queue = []) : s.cmdReady = true :=
  s.cmdReady_iff.mpr ⟨_, State.occupancy_of_free hs, by rw [hq]; exact hdepth⟩

/-- Settles O16: `State.cancelAll_eq` says what becomes of the queue; the delay ends in `Waiting` alone. -/
theorem schedResetCancelsTheQueue : Obligations.SchedResetCancelsTheQueue := by
  intro s
  refine ⟨fun hs => ?_, fun hs => ?_, fun hdepth t ht => ?_⟩
  · exact (execSchedReset_of_waiting hs).trans (by rw [State.cancelAll_eq]; rfl)
  · exact (execSchedReset_of_not_waiting hs).trans (by rw [State.cancelAll_eq]; rfl)
  · by_cases hs : s.sched = .waiting
    · obtain rfl := Outcome.next.inj ((execSchedReset_of_waiting hs).symm.trans ht)
      refine ⟨fun _ => State.cmdReady_of_empty (by simpa using hdepth) (by simp) (by simp), fun c hd => ?_,
        fun _ => rfl⟩
      simp [hs] at hd
    · obtain rfl := Outcome.next.inj ((execSchedReset_of_not_waiting hs).symm.trans ht)
      exact ⟨fun hfree => State.cmdReady_of_empty (by simpa using hdepth) (by simpa using hfree) (by simp),
        fun c hd hc => State.cmdReady_cancelAll_onBus hdepth hd hc, fun hw => absurd hw hs⟩

/-! ### Ticks (R140, R143, R176) -/

/-- A tick is counted and taken off the delay, as `State.tick` writes it for `Waiting`. -/
def State.countDown (s : State) : State := { s.emit .ticked with waitLeft := s.waitLeft - 1 }

@[simp] theorem State.countDown_cfg (s : State) : s.countDown.cfg = s.cfg := rfl
@[simp] theorem State.countDown_waitLeft (s : State) : s.countDown.waitLeft = s.waitLeft - 1 := rfl
@[simp] theorem State.countDown_trace (s : State) : s.countDown.trace = s.trace ++ [.ticked] := rfl

theorem State.tick_of_waiting {s : State} (hs : s.sched = .waiting) : s.tick = .next s.countDown.settle := by
  simp [State.tick, hs, State.countDown]

theorem State.tick_of_running {s : State} (hs : s.sched = .waiting) (hw : 2 ≤ s.waitLeft) :
    s.tick = .next s.countDown := by
  rw [State.tick_of_waiting hs, State.settle_of_running (s := s.countDown) hs (Nat.le_sub_one_of_lt hw)]

/-- The tick that ends the delay of an empty queue leads to `Idle` (R141). -/
theorem State.tick_of_last {s : State} (hs : s.sched = .waiting) (hw : s.waitLeft ≤ 1) (hq : s.queue = []) :
    s.tick = .next s.countDown.expireToIdle := by
  rw [State.tick_of_waiting hs, State.settle_of_expired (s := s.countDown) hs (Nat.sub_eq_zero_of_le hw) hq]

/-- The tick that ends the delay dispatches the head (R141). -/
theorem State.tick_of_last_head {s : State} {e : Entry} {q : List Entry} (hs : s.sched = .waiting)
    (hw : s.waitLeft ≤ 1) (hq : s.queue = e :: q) :
    s.tick = .next (({ s.countDown with queue := q } : State).dispatch e) := by
  have hp : s.countDown.atDispatchPoint = true :=
    (State.atDispatchPoint_iff _).mpr (.inr ⟨hs, Nat.sub_eq_zero_of_le hw⟩)
  rw [State.tick_of_waiting hs, State.settle_of_head hp hq]

theorem State.tick_of_untimed {s : State} {c : Cur} (hs : s.sched = .dispatching) (hc : s.cur = some c)
    (ht : c.timed = false) : s.tick = .next (s.emit .ticked) := by
  simp [State.tick, hs, hc, ht]

theorem State.tick_of_timed {s : State} {c : Cur} (hs : s.sched = .dispatching) (hc : s.cur = some c)
    (ht : c.timed = true) : s.tick = .next ((s.emit .ticked).tickTimeout c) := by
  simp [State.tick, hs, hc, ht]

/-- Settles O31: one equation per state and phase. -/
theorem oneTick : Obligations.OneTick := by
  intro s
  refine ⟨fun hs hq => ?_, State.tick_of_running, fun hs hw hq => ?_,
    fun c hs hc => ⟨fun hph => ?_, fun hk hph => ?_⟩⟩
  · have hquiet : (s.emit .ticked).settle = s.emit .ticked :=
      State.settle_of_quiescent _ ⟨fun _ => hq, by simp [hs]⟩
    calc s.tick
      _ = .next (s.emit .ticked).settle := by simp [State.tick, hs]
      _ = _ := congrArg _ hquiet
  · rw [State.tick_of_last hs hw hq]
    simp [State.expireToIdle, State.countDown, State.emit, Nat.sub_eq_zero_of_le hw]
  · refine State.tick_of_untimed hs hc ?_
    obtain hph | hph := hph <;> simp [Cur.timed, hph]
  · rw [State.tick_of_timed hs hc (c.timed_iff.mpr ⟨hk, hph⟩)]
    obtain ⟨hleft, h⟩ | ⟨hleft, h⟩ := State.tickTimeout_cases (s.emit .ticked) c
    · rw [State.emit_toLeft] at hleft
      rw [h]
      exact ⟨fun _ => rfl, fun hlast => by omega⟩
    · rw [State.emit_toLeft] at hleft
      rw [h]
      exact ⟨fun hmore => by omega, fun _ => by simp [State.emit, Completion.plain]⟩

/-- Settles O32: the tick dispatches the head, and the kind of the head decides its request, its phase and its timer. -/
theorem delayExpiryDispatchesTheHead : Obligations.DelayExpiryDispatchesTheHead := by
  intro s e q hs hw hq
  have hleft : s.countDown.waitLeft = 0 := Nat.sub_eq_zero_of_le hw.le
  refine ⟨_, State.tick_of_last_head hs hw.le hq, ?_⟩
  cases hk : e.kind with
  | txRdfollow =>
    rw [State.dispatch_of_follow _ e hk]
    exact ⟨rfl, rfl, hleft, rfl, List.append_assoc .., rfl, rfl⟩
  | txWrite | txRdreq =>
    rw [State.dispatch_of_write _ e (by simp [hk])]
    exact ⟨rfl, rfl, hleft, rfl, List.append_assoc .., rfl, rfl⟩

/-! ### The length of the delay (R148, R149) -/

/-- One step more is the step from where the run has come to. -/
theorem runSteps_succ_of_next {k : Nat} {s t : State} (h : runSteps k s = .next t) : runSteps (k + 1) s = step t := by
  induction k generalizing s with
  | zero =>
    obtain rfl := Outcome.next.inj h
    rw [runSteps]
    cases step s <;> rfl
  | succ k ih =>
    rw [runSteps] at h ⊢
    cases hs : step s with
    | next u =>
      rw [hs] at h
      exact ih h
    | fault f => simp [hs] at h
    | refused r => simp [hs] at h

/-- While the delay runs a pending tick is the next step. -/
theorem step_of_running {s : State} {rest : List Input} (hs : s.sched = .waiting) (hw : 1 ≤ s.waitLeft)
    (hi : s.inputs = .tick :: rest) : step s = ({ s with inputs := rest } : State).tick := by
  have hleft : s.waitLeft ≠ 0 := by omega
  have hdue : s.dueRequest = none := by
    simp [State.dueRequest, State.atDispatchPoint, hs, hleft, State.owedRead_of_free]
  rw [step_of_quiescent hdue (by simp [hleft]) hi, react]

/-- The state after `m` ticks of a running delay. -/
def State.afterTicks (s : State) (m : Nat) (rest : List Input) : State :=
  { s with waitLeft := s.waitLeft - m, inputs := rest, trace := s.trace ++ List.replicate m .ticked }

/-- The delay runs through every tick but its last. -/
theorem runSteps_ticks {m : Nat} {s : State} {rest : List Input} (hs : s.sched = .waiting) (hm : m < s.waitLeft)
    (hi : s.inputs = List.replicate m .tick ++ rest) : runSteps m s = .next (s.afterTicks m rest) := by
  induction m generalizing s with
  | zero => simp [runSteps, State.afterTicks, ← show s.inputs = rest from hi]
  | succ m ih =>
    have hstep : step s = .next (s.afterTicks 1 (List.replicate m .tick ++ rest)) := by
      rw [step_of_running hs (by omega) hi]
      exact State.tick_of_running hs (Nat.le_of_add_left_le hm)
    rw [runSteps, hstep]
    refine (ih (s := s.afterTicks 1 (List.replicate m .tick ++ rest)) hs (Nat.lt_sub_of_add_lt hm) rfl).trans ?_
    simp [State.afterTicks, Nat.sub_sub, Nat.add_comm, List.replicate_succ]

theorem requestsOf_ticks (m : Nat) : requestsOf (List.replicate m .ticked) = [] := by
  simp [requestsOf]

/-- Settles O33: the run of ticks by `runSteps_ticks`, and its last step by the equations of the last tick. -/
theorem delayLastsItsTicks : Obligations.DelayLastsItsTicks := by
  intro s n m hs hw hi
  have split_ticks : ∀ k ≤ n + 1, s.inputs = List.replicate k .tick ++ List.replicate (n + 1 - k) .tick := by
    intro k hk
    rw [hi, List.replicate_append_replicate, Nat.add_sub_cancel' hk]
  have hlast : runSteps (n + 1) s = (s.afterTicks n []).tick := by
    have hrun : runSteps n s = .next (s.afterTicks n [.tick]) :=
      runSteps_ticks hs (by omega) (by simpa using split_ticks n (by omega))
    rw [runSteps_succ_of_next hrun]
    exact step_of_running (s := s.afterTicks n [.tick]) hs (by simp [State.afterTicks, hw]) rfl
  have hleft : (s.afterTicks n []).waitLeft ≤ 1 := by simp [State.afterTicks, hw]
  refine ⟨fun hm => ?_, fun hq => ?_, fun e q hq => ?_⟩
  · refine ⟨_, runSteps_ticks hs (by omega) (split_ticks m (by omega)), hs, ?_, rfl, ?_⟩
    · simp [State.afterTicks, hw]
    · simp [State.afterTicks, requestsOf_ticks]
  · exact ⟨_, hlast.trans (State.tick_of_last hs hleft hq), rfl⟩
  · obtain ⟨ph, -, hcur, -⟩ :=
      State.dispatch_spec { (s.afterTicks n []).countDown with queue := q } e
    exact ⟨_, ph, hlast.trans (State.tick_of_last_head hs hleft hq), by simp, hcur, by simp⟩

end Sys2Proof.Machine
end

section
/-!
PROOFS. What every step keeps of the scheduler (`42_scheduler.md` R130, R138, R148): at most one request in flight, and
the count of the running delay. Both go through `Reaction`, what a step between events can do.
-/

namespace Sys2Proof.Machine

open Host (Outcome)

/-! ### At most one request in flight (R130) -/

/-- Every request of the observation was emitted while none was outstanding, and `out` says whether one is now. -/
def InFlight (out : Bool) (t : List Obs) : Prop := outstanding t = out ∧ oneInFlight t = true

/-- One more observation, where it keeps the rule: a request with none outstanding, or anything else. -/
theorem InFlight.append {out out' : Bool} {t : List Obs} {o : Obs} (h : InFlight out t)
    (ho : o.oneInFlightAfter (out, true) = (out', true)) : InFlight out' (t ++ [o]) := by
  obtain ⟨hout, hone⟩ := h
  refine ⟨?_, ?_⟩
  · rw [outstanding_append, hout]
    exact congrArg Prod.fst ho
  · rw [oneInFlight_append, hout, hone]
    exact congrArg Prod.snd ho

theorem InFlight.completions {out : Bool} {t : List Obs} (h : InFlight out t) (ks : List Completion) :
    InFlight out (t ++ ks.map .completed) := by
  induction ks generalizing t with
  | nil => simpa using h
  | cons k ks ih => simpa using ih (h.append (o := .completed k) rfl)

/-- A request is outstanding exactly while `Dispatching`, and each was emitted while none was (R37 ii). -/
def State.BusCounted (s : State) : Prop := InFlight (s.sched == .dispatching) s.trace

theorem State.busCounted_iff_of_free {s : State} (hs : s.sched ≠ .dispatching) :
    s.BusCounted ↔ InFlight false s.trace := by
  rw [State.BusCounted, beq_false_of_ne hs]

theorem State.busCounted_iff_of_onBus {s : State} (hs : s.sched = .dispatching) :
    s.BusCounted ↔ InFlight true s.trace := by
  rw [State.BusCounted, hs, beq_self_eq_true]

/-- The internal transitions emit a request only with the bus free, and are `Dispatching` after it. -/
theorem State.BusCounted.settle {s : State} (h : s.BusCounted) : s.settle.BusCounted := by
  obtain ⟨-, ht⟩ | ⟨hs, -, -, ht⟩ | ⟨e, q, hp, -, ht⟩ := State.settle_cases s <;> rw [ht]
  · exact h
  · have hfree : InFlight false s.trace := (State.busCounted_iff_of_free (by simp [hs])).mp h
    exact (State.busCounted_iff_of_free (by simp)).mpr hfree
  · have hfree : InFlight false s.trace := (State.busCounted_iff_of_free (State.free_of_atDispatchPoint hp)).mp h
    obtain ⟨-, r, -, htrace⟩ := State.dispatch_spec { s with queue := q } e
    exact (State.busCounted_iff_of_onBus (by simp)).mpr (htrace ▸ hfree.append rfl)

theorem ReadsOn.sched {s u : State} {c : Cur} (h : ReadsOn s c u) : u.sched = s.sched := by
  cases h <;> rfl

theorem ReadsOn.trace {s u : State} {c : Cur} (h : ReadsOn s c u) :
    ∃ n, u.trace = s.trace ++ [.request s.cfg.addr (.busRead n)] := by
  cases h <;> exact ⟨_, rfl⟩

theorem ReadsOn.busCounted {s u : State} {c : Cur} (h : ReadsOn s c u) (hs : s.sched = .dispatching)
    (hout : InFlight false s.trace) : u.BusCounted := by
  obtain ⟨n, ht⟩ := h.trace
  exact (State.busCounted_iff_of_onBus (h.sched.trans hs)).mpr (ht ▸ hout.append rfl)

/-- A response leaves no request outstanding, so the next read may be emitted. -/
theorem Response.busCounted {s t : State} {r : BusRsp} (h : Response s r t) (hcount : s.BusCounted) :
    t.BusCounted := by
  obtain ⟨hs, -, hu⟩ := h
  have hout : InFlight false (s.emit .responded).trace := InFlight.append hcount rfl
  refine State.BusCounted.settle ?_
  cases hu with
  | completed k => exact (State.busCounted_iff_of_free (by simp)).mpr (hout.append rfl)
  | acknowledged => exact (State.busCounted_iff_of_free (by simp)).mpr hout
  | drained => exact (State.busCounted_iff_of_free (by simp)).mpr hout
  | readsOn hon => exact hon.busCounted hs hout

theorem busCounted_of_takesOn {s v : State} (h : Relation.ReflTransGen TakesOn s v) (hcount : s.BusCounted) :
    v.BusCounted := by
  induction h with
  | refl => exact hcount
  | tail _ hon ih =>
    obtain ⟨hs, c, -, hon⟩ := hon
    exact hon.busCounted hs (InFlight.append (o := .responded) ih rfl)

theorem State.BusCounted.cancelAll {s : State} (h : s.BusCounted) : s.cancelAll.BusCounted := by
  have hcancelled := InFlight.completions h (s.queue.map (fun e => .plain e.tag .cancelled))
  simpa [State.BusCounted, Function.comp_def] using hcancelled

theorem Reaction.busCounted {s t : State} {e : Input} (h : Reaction s e t) (hcount : s.BusCounted) :
    t.BusCounted := by
  cases h with
  | accepted c x =>
    exact State.BusCounted.settle (s := (s.emit (.accepted x.tag)).enqueue x) (InFlight.append hcount rfl)
  | cancelled c => exact InFlight.append hcount rfl
  | emptied => exact hcount.cancelAll
  | emptiedWaiting c hop hs =>
    have hout : InFlight false s.cancelAll.trace :=
      (State.busCounted_iff_of_free (by simp [hs])).mp hcount.cancelAll
    exact (State.busCounted_iff_of_free (by simp)).mpr hout
  | replied w b hv ht => exact ht.busCounted (busCounted_of_takesOn hv hcount)
  | responded ht => exact ht.busCounted hcount
  | tickedFree n =>
    exact State.BusCounted.settle (s := { s.emit .ticked with waitLeft := n }) (InFlight.append hcount rfl)
  | tickedUntimed => exact InFlight.append hcount rfl
  | tickedTimed => exact InFlight.append hcount rfl
  | timedOut => exact (InFlight.append (o := .ticked) hcount rfl).append rfl
  | hardReset => exact InFlight.append hcount rfl
  | builtOnly | ordered => exact hcount

/-- Settles O48: between events a step is a reaction, and every reaction keeps the count. -/
theorem atMostOneRequestInFlight : Obligations.AtMostOneRequestInFlight := by
  intro s t hinv hout hone h
  obtain rfl | ⟨e, rest, -, hr⟩ := hinv.step_reaction h
  · exact ⟨hout, hone⟩
  · exact hr.busCounted (s := { s with inputs := rest }) ⟨hout, hone⟩

/-! ### The delay between transactions (R138, R140, R148) -/

/-- The change from `s` to `t` keeps the count of the running delay, and leads from the delay to the bus only where the
delay has passed. -/
def DelayKept (s t : State) : Prop :=
  t.DelayCounted ∧
    (s.sched = .waiting → t.sched = .dispatching →
      ∀ d, s.lastDir = some d → s.cfg.delayAfter d ≤ ticksSinceResponse t.trace)

theorem State.delayCounted_of_not_waiting {s : State} (hs : s.sched ≠ .waiting) : s.DelayCounted :=
  fun hw => absurd hw hs

theorem DelayKept.of_not_waiting {s t : State} (hs : s.sched ≠ .waiting) (ht : t.DelayCounted) : DelayKept s t :=
  ⟨ht, fun hw => absurd hw hs⟩

theorem DelayKept.of_not_dispatching {s t : State} (ht : t.DelayCounted) (hd : t.sched ≠ .dispatching) :
    DelayKept s t :=
  ⟨ht, fun _ h => absurd h hd⟩

/-- The count goes on where the timer and the ticks since the last response stay as they are. -/
theorem State.DelayCounted.of_same {s t : State} (h : s.DelayCounted) (hs : t.sched = s.sched)
    (hd : t.lastDir = s.lastDir) (hw : t.waitLeft = s.waitLeft) (hg : t.cfg = s.cfg)
    (ht : ticksSinceResponse t.trace = ticksSinceResponse s.trace) : t.DelayCounted := by
  unfold State.DelayCounted
  rw [hs, hd, hw, hg, ht]
  exact h

/-- Only a delay that has run out lets the internal transitions dispatch from `Waiting`. -/
theorem State.DelayCounted.settle {s : State} (h : s.DelayCounted) : DelayKept s s.settle := by
  obtain ⟨-, ht⟩ | ⟨-, -, -, ht⟩ | ⟨e, q, hp, -, ht⟩ := State.settle_cases s <;> rw [ht]
  · exact ⟨h, fun hw hd => by simp [hw] at hd⟩
  · exact .of_not_dispatching (State.delayCounted_of_not_waiting (by simp)) (by simp)
  · refine ⟨State.delayCounted_of_not_waiting (by simp), fun hs _ d hd => ?_⟩
    have hw : s.waitLeft = 0 := by simpa [State.atDispatchPoint, hs] using hp
    obtain ⟨d', hd', hsum⟩ := h hs
    obtain rfl : d = d' := Option.some.inj (hd.symm.trans hd')
    obtain ⟨-, r, -, htrace⟩ := State.dispatch_spec { s with queue := q } e
    have hpassed : s.cfg.delayAfter d ≤ ticksSinceResponse s.trace := by omega
    simpa [htrace] using hpassed

/-- The end of a transaction starts the count with the response just processed (R138). -/
theorem State.delayCounted_finishTransaction {s : State} (c : Cur) (h : ticksSinceResponse s.trace = 0) :
    (s.finishTransaction c).DelayCounted := by
  intro _
  exact ⟨c.dir, rfl, by simp [h]⟩

theorem sched_of_takesOn {s v : State} (h : Relation.ReflTransGen TakesOn s v) : v.sched = s.sched := by
  induction h with
  | refl => rfl
  | tail _ hon ih =>
    obtain ⟨-, c, -, hon⟩ := hon
    exact hon.sched.trans ih

theorem Response.delayCounted {s t : State} {r : BusRsp} (h : Response s r t) :
    s.sched = .dispatching ∧ t.DelayCounted := by
  obtain ⟨hs, -, hu⟩ := h
  refine ⟨hs, (State.DelayCounted.settle ?_).1⟩
  cases hu with
  | completed k => exact State.delayCounted_finishTransaction _ (by simp)
  | acknowledged => exact State.delayCounted_finishTransaction _ (by simp)
  | drained => exact State.delayCounted_finishTransaction _ (by simp)
  | readsOn hon => exact State.delayCounted_of_not_waiting (by simp [hon.sched, hs])

/-- Every reaction but that to a tick keeps the delay: none of them counts, and none ends it but a SCHED_RESET and a
reset, which lead to `Idle`. -/
theorem Reaction.delayKept {s t : State} {e : Input} (h : Reaction s e t) (he : e ≠ .tick) (hcount : s.DelayCounted) :
    DelayKept s t := by
  have of_same : t.sched = s.sched → t.DelayCounted → DelayKept s t :=
    fun hs ht => ⟨ht, fun hw hd => by simp [hs, hw] at hd⟩
  cases h with
  | accepted c x =>
    exact State.DelayCounted.settle (s := (s.emit (.accepted x.tag)).enqueue x)
      (hcount.of_same rfl rfl rfl rfl (by simp))
  | cancelled => exact of_same rfl (hcount.of_same rfl rfl rfl rfl (by simp))
  | emptied c hop hs => exact .of_not_waiting hs (State.delayCounted_of_not_waiting (by simpa using hs))
  | emptiedWaiting => exact .of_not_dispatching (State.delayCounted_of_not_waiting (by simp)) (by simp)
  | replied w b hv ht =>
    obtain ⟨hs, hcounted⟩ := ht.delayCounted
    exact .of_not_waiting (by simp [← sched_of_takesOn hv, hs]) hcounted
  | responded ht =>
    obtain ⟨hs, hcounted⟩ := ht.delayCounted
    exact .of_not_waiting (by simp [hs]) hcounted
  | tickedFree | tickedUntimed | tickedTimed | timedOut => exact absurd rfl he
  | hardReset =>
    exact .of_not_dispatching (State.delayCounted_of_not_waiting (by simp [State.reset])) (by simp [State.reset])
  | builtOnly | ordered => exact of_same rfl hcount

/-- A tick while `Waiting` moves one tick of the delay from those left to those passed (R140). -/
theorem State.delayKept_tick {s t : State} (hcount : s.DelayCounted) (hw : ¬ (s.sched = .waiting ∧ s.waitLeft = 0))
    (h : s.tick = .next t) : DelayKept s t := by
  by_cases hs : s.sched = .waiting
  · obtain rfl := Outcome.next.inj ((State.tick_of_waiting hs).symm.trans h)
    refine State.DelayCounted.settle (s := s.countDown) (fun _ => ?_)
    obtain ⟨d, hd, hsum⟩ := hcount hs
    have hpos : s.waitLeft ≠ 0 := fun h0 => hw ⟨hs, h0⟩
    exact ⟨d, hd, by simp; omega⟩
  · refine .of_not_waiting hs ?_
    obtain ⟨hi, rfl⟩ | ⟨hi, -⟩ | ⟨hi, c, -, ⟨-, rfl⟩ | ⟨-, rfl⟩⟩ := State.tick_next h
    · exact (State.DelayCounted.settle (s := s.emit .ticked) (State.delayCounted_of_not_waiting hs)).1
    · exact absurd hi hs
    · refine State.delayCounted_of_not_waiting ?_
      obtain ⟨-, ht⟩ | ⟨-, ht⟩ := State.tickTimeout_cases (s.emit .ticked) c <;> simpa [ht] using hs
    · exact State.delayCounted_of_not_waiting hs

/-- Settles O53: between events a step is a reaction, and that to a tick is the one that counts. -/
theorem minimumDelayBetweenTransactions : Obligations.MinimumDelayBetweenTransactions := by
  intro s t hinv hcount h
  cases hi : s.inputs with
  | nil =>
    obtain rfl := Outcome.next.inj ((noEventNoChange s hinv hi).symm.trans h)
    exact ⟨hcount, fun hw hd => by simp [hw] at hd⟩
  | cons e rest =>
    rw [hinv.step_eq_react hi] at h
    by_cases he : e = .tick
    · subst he
      exact State.delayKept_tick (s := { s with inputs := rest }) hcount hinv.not_expired h
    · exact (reaction_of_react (s := { s with inputs := rest }) hinv.dueRequest_eq_none h).delayKept he hcount

end Sys2Proof.Machine
end

section
/-!
PROOFS. The operations of the device (`43_device_ops.md` R160 to R176). An accepted WRITE or READ is one acceptance of
an entry; a response is the answer of its phase, ended as `State.ended`; an unanswered follow-up is a run of ticks.
Each statement is read off the equations of these three.
-/

namespace Sys2Proof.Machine

open Host (Outcome)

/-! ### An accepted WRITE or READ (R133 to R136, R142, R160 to R162) -/

/-- A transaction on the bus has nothing urgent beside it. -/
theorem State.settle_of_onBus {s : State} (hs : s.sched = .dispatching) : s.settle = s :=
  State.settle_of_quiescent s (State.quiescent_of_dispatching hs)

/-- In `Idle` the queue holds the accepted entry alone, so that is the head that is dispatched (R135). -/
theorem State.accept_of_idle {s : State} {e : Entry} (hs : s.sched = .idle) (hq : s.queue = [])
    (hdepth : 1 ≤ s.params.queueDepth) (hk : e.kind ≠ .txRdfollow) :
    s.accept e =
      .next { s with
        sched := .dispatching
        cur := some { entry := e, phase := .phWr }
        lastDir := none
        trace := s.trace ++ [.accepted e.tag, .request s.cfg.addr (.busWrite e.frame)] } := by
  have hocc : s.occupancy = some 0 := by rw [State.occupancy_of_free (by simp [hs]), hq]; rfl
  have hpoint : ((s.emit (.accepted e.tag)).enqueue e).atDispatchPoint = true :=
    (State.atDispatchPoint_iff _).mpr (.inl hs)
  have hhead : ((s.emit (.accepted e.tag)).enqueue e).queue = [e] := by simp [hq]
  rw [State.accept_of_room hocc hdepth, State.settle_of_head hpoint hhead, State.dispatch_of_write _ e hk]
  simp [State.enqueue, State.emit, hq]

/-- Where nothing is urgent the accepted entry only joins the tail (R133). -/
theorem State.accept_of_quiescent {s : State} {n : Nat} {e : Entry} (hn : s.occupancy = some n)
    (hroom : n < s.params.queueDepth) (hquiet : ((s.emit (.accepted e.tag)).enqueue e).Quiescent) :
    s.accept e = .next { s with queue := s.queue ++ [e], trace := s.trace ++ [.accepted e.tag] } := by
  rw [State.accept_of_room hn hroom, State.settle_of_quiescent _ hquiet]
  rfl

theorem State.accept_of_onBus {s : State} {c : Cur} {e : Entry} (hs : s.sched = .dispatching) (hc : s.cur = some c)
    (hroom : s.queue.length + (if c.entry.kind = .txRdreq then 1 else 0) < s.params.queueDepth) :
    s.accept e = .next { s with queue := s.queue ++ [e], trace := s.trace ++ [.accepted e.tag] } :=
  State.accept_of_quiescent (State.occupancy_of_onBus hs hc) hroom (State.quiescent_of_dispatching hs)

theorem State.accept_of_waiting {s : State} {e : Entry} (hs : s.sched = .waiting) (hw : 1 ≤ s.waitLeft)
    (hroom : s.queue.length < s.params.queueDepth) :
    s.accept e = .next { s with queue := s.queue ++ [e], trace := s.trace ++ [.accepted e.tag] } :=
  State.accept_of_quiescent (State.occupancy_of_free (by simp [hs])) hroom ⟨by simp [hs], fun _ => hw⟩

theorem exec_write (s : State) (tag : Tag) (control : Byte) (value : BitVec 32) :
    exec (.write tag control value) s = s.accept (writeEntry s.cfg.addr tag control value) := rfl

theorem exec_read (s : State) (tag : Tag) (control : Byte) :
    exec (.read tag control) s = s.accept (readEntry s.cfg.addr tag control) := rfl

/-- The two value bytes of a WRITE are bytes 1 and 0 of the 32-bit operand (R161). -/
theorem hiByte_trunc16 (v : BitVec 32) : hiByte (trunc16 v) = v.extractLsb' 8 8 := by
  ext i hi
  simp [hiByte, trunc16]

theorem loByte_trunc16 (v : BitVec 32) : loByte (trunc16 v) = v.extractLsb' 0 8 := by
  ext i hi
  simp [loByte, trunc16]

theorem writeEntry_eq (addr : BitVec 7) (tag : Tag) (control : Byte) (value : BitVec 32) :
    writeEntry addr tag control value =
      { tag := tag, kind := .txWrite, control := control,
        frame := [0x51, 0x84, 0x03, control, value.extractLsb' 8 8, value.extractLsb' 0 8,
          seed addr .write ^^^ 0xD6#8 ^^^ control ^^^ value.extractLsb' 8 8 ^^^ value.extractLsb' 0 8] } := by
  rw [writeEntry, buildWrite_eq, hiByte_trunc16, loByte_trunc16]

theorem readEntry_eq (addr : BitVec 7) (tag : Tag) (control : Byte) :
    readEntry addr tag control =
      { tag := tag, kind := .txRdreq, control := control,
        frame := [0x51, 0x82, 0x01, control, seed addr .read ^^^ 0xD2#8 ^^^ control] } := by
  rw [readEntry, buildRead_eq]

/-- Settles O12: a WRITE is the acceptance of the entry of `writeEntry_eq`. -/
theorem writeSendsOrQueuesItsFrame : Obligations.WriteSendsOrQueuesItsFrame := by
  intro s tag control value e he
  have hentry : writeEntry s.cfg.addr tag control value = e := (writeEntry_eq ..).trans he.symm
  have htag : e.tag = tag := by rw [he]
  have hk : e.kind ≠ .txRdfollow := by simp [he]
  rw [exec_write, hentry, ← htag]
  exact ⟨fun hs hq hdepth => State.accept_of_idle hs hq hdepth hk, fun c => State.accept_of_onBus,
    State.accept_of_waiting⟩

/-- Settles O13: a READ is the acceptance of the entry of `readEntry_eq`. -/
theorem readSendsOrQueuesItsRequest : Obligations.ReadSendsOrQueuesItsRequest := by
  intro s tag control e he
  have hentry : readEntry s.cfg.addr tag control = e := (readEntry_eq ..).trans he.symm
  have htag : e.tag = tag := by rw [he]
  have hk : e.kind ≠ .txRdfollow := by simp [he]
  rw [exec_read, hentry, ← htag]
  exact ⟨fun hs hq hdepth => State.accept_of_idle hs hq hdepth hk, fun c => State.accept_of_onBus,
    State.accept_of_waiting⟩

/-! ### The next read of a follow-up (R170, R171) -/

/-- A read that a follow-up owes is the one that BUS_READ issues. -/
theorem exec_busRead_of_owedRead {s : State} {c : Cur} {ph : Phase} {n : Nat} (hs : s.sched = .dispatching)
    (h : s.owedRead = some (c, ph, n)) : exec (.busRead n) s = .next (s.nextRead c ph n) := by
  have hdue : s.dueRequest = some (BusReq.busRead n).word := by simp [State.dueRequest, State.atDispatchPoint, hs, h]
  simp [exec, execBusRead, hdue, h]

theorem State.owedRead_of_ack {s : State} {c : Cur} {a : Byte} (hs : s.sched = .dispatching) (hc : s.cur = some c)
    (hph : c.phase = .phAck) (hrx : s.rxAck = some a) (ha : ackAccepted s.cfg.addr a = true) :
    s.owedRead = some (c, .phLen, 1) := by
  simp [State.owedRead, hs, hc, hph, hrx, ha]

theorem State.owedRead_of_len {s : State} {c : Cur} {l : Byte} {d : BitVec 7} (hs : s.sched = .dispatching)
    (hc : s.cur = some c) (hph : c.phase = .phLen) (hrx : s.rxLen = some l) (hd : s.dataLength = some d)
    (hl : lengthAccepted s.cfg.strictLengthFlag s.cfg.maxDataLen l = true) :
    s.owedRead = some (c, .phTail, d.toNat + 1) := by
  simp [State.owedRead, hs, hc, hph, hrx, hd, hl]

/-- Settles O23: the byte accepted in each of the two phases makes the follow-up owe its next read. -/
theorem nextReadOfAFollowUp : Obligations.NextReadOfAFollowUp := by
  intro s c hs hc
  refine ⟨fun hph hrx => ?_, fun l d hph hrx hd hflag hmax => ?_⟩
  · exact exec_busRead_of_owedRead hs (State.owedRead_of_ack hs hc hph hrx (ackAccepted_iff.mpr rfl))
  · exact exec_busRead_of_owedRead hs
      (State.owedRead_of_len hs hc hph hrx hd (lengthAccepted_iff.mpr ⟨hflag, BitVec.le_def.mp hmax⟩))

/-! ### Responses (R163, R164, R170 to R175) -/

theorem Cur.dir_of_follow {c : Cur} (hk : c.entry.kind = .txRdfollow) : c.dir = .read := by
  rw [Cur.dir, hk]
  rfl

theorem Cur.dir_of_write {c : Cur} (hk : c.entry.kind ≠ .txRdfollow) : c.dir = .write := by
  unfold Cur.dir
  cases h : c.entry.kind with
  | txWrite => rfl
  | txRdreq => rfl
  | txRdfollow => contradiction

section

variable {s u : State} {c : Cur} (hs : s.sched = .dispatching) (hc : s.cur = some c)
include hs hc

theorem State.respond_err_of_answer {err : BusErr} (hrange : err < 2 ^ s.params.buserrW)
    (hu : (s.emit .responded).answer c (.err err) = .next u) : s.respond (.err err) = .next u.settle := by
  simp [State.respond, hs, hc, BusRsp.inRange, hrange, hu]

/-- Where an error word is answered by `raise BusError`, it ends the operation and its transaction. -/
theorem State.respond_err_of_raise {err : BusErr} (hrange : err < 2 ^ s.params.buserrW)
    (hu : (s.emit .responded).answer c (.err err) = .next ((s.emit .responded).raise c .busError err)) :
    s.respond (.err err) =
      .next (s.ended c.dir [.responded, .completed (.failed c.entry.tag .busError err)]).settle := by
  have hraise : (s.emit .responded).raise c .busError err =
      s.ended c.dir [.responded, .completed (.failed c.entry.tag .busError err)] := by
    rw [State.raise, State.complete_finishTransaction, State.ended_emit]
  rw [State.respond_err_of_answer hs hc hrange hu, hraise]

/-- In a write phase every transaction that a rule puts there ends with `BusError` (R163, R164). -/
theorem State.respond_err_write {err : BusErr} (hph : c.phase = .phWr) (hk : c.entry.kind ≠ .txRdfollow)
    (hrange : err < 2 ^ s.params.buserrW) :
    s.respond (.err err) =
      .next (s.ended .write [.responded, .completed (.failed c.entry.tag .busError err)]).settle := by
  rw [← Cur.dir_of_write hk]
  refine State.respond_err_of_raise hs hc hrange ?_
  cases hkind : c.entry.kind with
  | txWrite => simp [State.answer, hph, hkind, BusRsp.writeAnswer, State.writeAnswered]
  | txRdreq => simp [State.answer, hph, hkind, BusRsp.writeAnswer, State.requestAnswered]
  | txRdfollow => contradiction

/-- A byte that is accepted leaves the transaction on the bus, so nothing follows in the same reaction. -/
theorem State.respond_bytes_of_readsOn {bs : List Byte}
    (hu : (s.emit .responded).answer c (.bytes bs) = .next u) (hbus : u.sched = .dispatching) :
    s.respond (.bytes bs) = .next u := by
  rw [State.respond_bytes_of_answer hs hc hu, State.settle_of_onBus hbus]

theorem State.respond_ack_of_accepted {a : Byte} (hph : c.phase = .phAck) (ha : ackAccepted s.cfg.addr a = true) :
    s.respond (.bytes [a]) = .next (((s.emit .responded).loadAck a).nextRead c .phLen 1) := by
  refine State.respond_bytes_of_readsOn hs hc ?_ hs
  simp [State.answer, hph, BusRsp.readAnswer, State.ackAnswered_of_accepted, ha]

theorem State.respond_len_of_accepted {l : Byte} (hph : c.phase = .phLen)
    (hl : lengthAccepted s.cfg.strictLengthFlag s.cfg.maxDataLen l = true) :
    s.respond (.bytes [l]) =
      .next (((s.emit .responded).loadLen l).nextRead c .phTail ((dataLengthOf l).toNat + 1)) := by
  refine State.respond_bytes_of_readsOn hs hc ?_ hs
  simp [State.answer, hph, BusRsp.readAnswer, State.lenAnswered_of_accepted, hl]

variable (hk : c.entry.kind = .txRdfollow)
include hk

/-- In each of the three reads an error word ends the READ with `BusError` (R174). -/
theorem State.respond_err_read {err : BusErr}
    (hph : c.phase = .phAck ∨ c.phase = .phLen ∨ c.phase = .phTail ∧ ∃ d, s.dataLength = some d)
    (hrange : err < 2 ^ s.params.buserrW) :
    s.respond (.err err) =
      .next (s.ended .read [.responded, .completed (.failed c.entry.tag .busError err)]).settle := by
  rw [← Cur.dir_of_follow hk]
  refine State.respond_err_of_raise hs hc hrange ?_
  obtain hph | hph | ⟨hph, d, hd⟩ := hph
  · simp [State.answer, hph, BusRsp.readAnswer, State.ackAnswered]
  · simp [State.answer, hph, BusRsp.readAnswer, State.lenAnswered]
  · simp [State.answer, hph, hd, BusRsp.readAnswer, State.tailAnswered]

theorem State.respond_ack_of_rejected {a : Byte} (hph : c.phase = .phAck) (ha : ackAccepted s.cfg.addr a = false) :
    s.respond (.bytes [a]) =
      .next (s.ended .read [.responded, .completed (completionOfReply c.entry.tag (.error .ackInvalid))]).settle := by
  refine State.respond_bytes_of_answer hs hc ?_
  simp [State.answer, hph, BusRsp.readAnswer, State.ackAnswered_of_rejected, ha, Cur.dir_of_follow hk]

theorem State.respond_len_of_rejected {l : Byte} (hph : c.phase = .phLen)
    (hl : lengthAccepted s.cfg.strictLengthFlag s.cfg.maxDataLen l = false) :
    s.respond (.bytes [l]) =
      .next (s.ended .read
        [.responded, .completed (completionOfReply c.entry.tag (.error .malformedLength))]).settle := by
  refine State.respond_bytes_of_answer hs hc ?_
  simp [State.answer, hph, BusRsp.readAnswer, State.lenAnswered_of_rejected, hl, Cur.dir_of_follow hk]

/-- A read of one byte that returns none ends the READ as truncated (R170, R171). -/
theorem State.respond_nil (hph : c.phase = .phAck ∨ c.phase = .phLen) :
    s.respond (.bytes []) =
      .next (s.ended .read
        [.responded, .completed (completionOfReply c.entry.tag (.error .truncatedResponse))]).settle := by
  refine State.respond_bytes_of_answer hs hc ?_
  obtain hph | hph := hph
  · simp [State.answer, hph, BusRsp.readAnswer, State.ackAnswered, State.raise_eq_ended, Cur.dir_of_follow hk]
  · simp [State.answer, hph, BusRsp.readAnswer, State.lenAnswered, State.raise_eq_ended, Cur.dir_of_follow hk]

theorem State.respond_tail {d : BitVec 7} {tail : List Byte} (hph : c.phase = .phTail) (hd : s.dataLength = some d)
    (hlen : tail.length ≤ d.toNat + 1) :
    s.respond (.bytes tail) =
      .next (s.ended .read
        [.responded,
          .completed (completionOfReply c.entry.tag
            (checkTail s.cfg.addr c.entry.control d.toNat tail))]).settle := by
  refine State.respond_bytes_of_answer hs hc ?_
  simp [State.answer, hph, hd, BusRsp.readAnswer, hlen, State.tailAnswered_ok, Cur.dir_of_follow hk]

end

/-- Settles O25: the two answers of a write phase to the entry of a WRITE. -/
theorem writeResponseEndsTheWrite : Obligations.WriteResponseEndsTheWrite := by
  intro s c hs hc hph hk
  exact ⟨State.respond_ok_of_write hs hc hph hk,
    fun err hrange => State.respond_err_write hs hc hph (by simp [hk]) hrange⟩

/-- Settles O26: the two answers of a write phase to the entry of a read request. -/
theorem requestResponseQueuesTheFollowUp : Obligations.RequestResponseQueuesTheFollowUp := by
  intro s c hs hc hph hk
  exact ⟨State.respond_ok_of_request hs hc hph hk,
    fun err hrange => State.respond_err_write hs hc hph (by simp [hk]) hrange⟩

/-- Settles O27: the byte is accepted or rejected as `ackAccepted_iff` and `lengthAccepted_iff` tell. -/
theorem ackAndLengthResponses : Obligations.AckAndLengthResponses := by
  intro s c hs hc hk
  refine ⟨fun hph => ⟨fun a ha => ?_, fun a ha => ?_⟩, fun hph => ⟨fun l hflag hmax => ?_, fun l hl => ?_⟩,
    fun hph => ⟨State.respond_nil hs hc hk hph, fun err hrange => ?_⟩⟩
  · rw [State.respond_ack_of_accepted hs hc hph (ackAccepted_iff.mpr ha)]
    simp [State.nextRead, State.request, State.loadAck, State.emit]
  · exact State.respond_ack_of_rejected hs hc hk hph (by simpa using mt ackAccepted_iff.mp ha)
  · rw [State.respond_len_of_accepted hs hc hph (lengthAccepted_iff.mpr ⟨hflag, BitVec.le_def.mp hmax⟩)]
    simp [State.nextRead, State.request, State.loadLen, State.emit]
  · exact State.respond_len_of_rejected hs hc hk hph (lengthRejected_iff.mpr (hl.imp_right BitVec.lt_def.mp))
  · exact State.respond_err_read hs hc hk (hph.imp_right .inl) hrange

/-- Settles O28: the bytes by `State.respond_tail`, the error word as in the other two reads. -/
theorem tailResponseEndsTheRead : Obligations.TailResponseEndsTheRead := by
  intro s c d hs hc hk hph hd
  exact ⟨fun tail hlen => State.respond_tail hs hc hk hph hd hlen,
    fun err hrange => State.respond_err_read hs hc hk (.inr (.inr ⟨hph, d, hd⟩)) hrange⟩

/-- While draining every answer of the right shape is discarded (R175). -/
theorem State.answer_drain {s : State} {c : Cur} {r : BusRsp} {n : Nat} {a : Except BusErr (List Byte)}
    (hk : c.entry.kind = .txRdfollow) (hph : c.phase = .phDrain) (hn : s.asked .phDrain = some n)
    (ha : r.readAnswer n = some a) :
    (s.emit .responded).answer c r = .next (s.ended .read [.responded]) := by
  have hn' : (s.emit .responded).asked .phDrain = some n := hn
  simp [State.answer, hph, hn', ha, State.finishTransaction_eq_ended, Cur.dir_of_follow hk]

/-- Settles O29: the read at which the timeout struck asked for one byte at least, and for `data_length + 1` where that
is known. -/
theorem drainDiscardsTheResponse : Obligations.DrainDiscardsTheResponse := by
  intro s c hs hc hk hph
  have hbytes : ∀ (bs : List Byte) (n : Nat), s.asked .phDrain = some n → bs.length ≤ n →
      s.respond (.bytes bs) = .next (s.ended .read [.responded]).settle := fun bs n hn hlen =>
    State.respond_bytes_of_answer hs hc (State.answer_drain hk hph hn (if_pos hlen))
  refine ⟨fun bs hlen => ?_, fun bs d hd hlen => ?_, fun err hrange => ?_⟩
  · refine hbytes bs _ rfl ?_
    split <;> omega
  · exact hbytes bs (d.toNat + 1) (by simp [State.asked, hd]) hlen
  · exact State.respond_err_of_answer hs hc hrange (State.answer_drain hk hph rfl rfl)

/-! ### A follow-up that stays unanswered (R176) -/

/-- In the phases of the three reads an invariant state has a follow-up on the bus, so its timer runs. -/
theorem State.CurOk.timed {s : State} {c : Cur} (h : s.CurOk c)
    (hph : c.phase = .phAck ∨ c.phase = .phLen ∨ c.phase = .phTail) : c.timed = true := by
  refine c.timed_iff.mpr ⟨?_, hph⟩
  obtain hph | hph | hph := hph <;>
  · simp only [State.CurOk, hph] at h
    exact h.1

/-- The state after `m` ticks of the timeout timer, before it runs out. -/
def State.afterTimerTicks (s : State) (m : Nat) (rest : List Input) : State :=
  { s with toLeft := s.toLeft - m, inputs := rest, trace := s.trace ++ List.replicate m .ticked }

@[simp] theorem State.afterTimerTicks_toLeft (s : State) (m : Nat) (rest : List Input) :
    (s.afterTimerTicks m rest).toLeft = s.toLeft - m := rfl
@[simp] theorem State.afterTimerTicks_trace (s : State) (m : Nat) (rest : List Input) :
    (s.afterTimerTicks m rest).trace = s.trace ++ List.replicate m .ticked := rfl

/-- The request owed does not depend on the timer, the pending events or the observation. -/
theorem State.afterTimerTicks_dueRequest (s : State) (m : Nat) (rest : List Input) :
    (s.afterTimerTicks m rest).dueRequest = s.dueRequest := rfl

theorem completionsOf_ticks (m : Nat) : completionsOf (List.replicate m .ticked) = [] := by
  simp [completionsOf]

section

variable {s : State} {c : Cur} (hs : s.sched = .dispatching) (hc : s.cur = some c)
include hs

/-- With no request owed, a tick that comes while a transaction is on the bus is the next step. -/
theorem step_of_tick_onBus {rest : List Input} (hdue : s.dueRequest = none) (hi : s.inputs = .tick :: rest) :
    step s = ({ s with inputs := rest } : State).tick := by
  rw [step_of_quiescent hdue (by simp [hs]) hi, react]

include hc

/-- The tick of a running timer, as `oneTick` says it. -/
theorem State.tick_of_timer (ht : c.timed = true) :
    (2 ≤ s.toLeft → s.tick = .next { s with toLeft := s.toLeft - 1, trace := s.trace ++ [.ticked] }) ∧
    (s.toLeft = 1 →
      s.tick = .next { s with
        toLeft := 0
        cur := some { c with phase := .phDrain }
        trace := s.trace ++ [.ticked, .completed (.plain c.entry.tag .timeout)] }) := by
  obtain ⟨-, -, -, honBus⟩ := oneTick s
  obtain ⟨-, htimed⟩ := honBus c hs hc
  obtain ⟨hk, hph⟩ := c.timed_iff.mp ht
  exact htimed hk hph

end

/-- The timer runs through every tick but its last. -/
theorem runSteps_timerTicks {m : Nat} {s : State} {c : Cur} {rest : List Input} (hs : s.sched = .dispatching)
    (hc : s.cur = some c) (ht : c.timed = true) (hdue : s.dueRequest = none) (hm : m < s.toLeft)
    (hi : s.inputs = List.replicate m .tick ++ rest) : runSteps m s = .next (s.afterTimerTicks m rest) := by
  induction m generalizing s with
  | zero => simp [runSteps, State.afterTimerTicks, ← show s.inputs = rest from hi]
  | succ m ih =>
    have hstep : step s = .next (s.afterTimerTicks 1 (List.replicate m .tick ++ rest)) := by
      obtain ⟨htick, -⟩ := State.tick_of_timer (s := { s with inputs := List.replicate m .tick ++ rest }) hs hc ht
      rw [step_of_tick_onBus hs hdue hi]
      exact htick (Nat.le_of_add_left_le hm)
    rw [runSteps, hstep]
    have hdue' := (s.afterTimerTicks_dueRequest 1 (List.replicate m .tick ++ rest)).trans hdue
    refine (ih (s := s.afterTimerTicks 1 (List.replicate m .tick ++ rest)) hs hc hdue'
      (Nat.lt_sub_of_add_lt hm) rfl).trans ?_
    simp [State.afterTimerTicks, Nat.sub_sub, Nat.add_comm, List.replicate_succ]

/-- Settles O34: the run of ticks by `runSteps_timerTicks`, and its last step by the tick that empties the timer. -/
theorem timeoutOnTheLastTick : Obligations.TimeoutOnTheLastTick := by
  intro s c n m hinv hs hc hph hleft hi
  obtain ⟨-, -, -, hok⟩ := hinv.preInv.onBus hs hc
  have ht : c.timed = true := hok.timed hph
  have hdue := hinv.dueRequest_eq_none
  have hrun : ∀ k ≤ n, runSteps k s = .next (s.afterTimerTicks k (List.replicate (n + 1 - k) .tick)) := by
    intro k hk
    refine runSteps_timerTicks hs hc ht hdue (by omega) ?_
    rw [hi, List.replicate_append_replicate, Nat.add_sub_cancel' (by omega)]
  refine ⟨fun hm => ⟨_, hrun m hm, hc, by simp [hleft], by simp [completionsOf_ticks]⟩, ?_⟩
  have hone : (s.afterTimerTicks n []).toLeft = 1 := by simp [hleft]
  have hlast : runSteps (n + 1) s = (s.afterTimerTicks n []).tick := by
    rw [runSteps_succ_of_next (hrun n le_rfl)]
    exact step_of_tick_onBus (s := s.afterTimerTicks n _) hs ((s.afterTimerTicks_dueRequest ..).trans hdue)
      (by simp [State.afterTimerTicks])
  obtain ⟨-, htick⟩ := State.tick_of_timer (s := s.afterTimerTicks n []) hs hc ht
  refine ⟨_, hlast.trans (htick hone), hs, rfl, ?_⟩
  simp [completionsOf_ticks]
  rfl

end Sys2Proof.Machine
end

section
/-!
PROOFS. The exceptions (`60_exceptions.md` R190, R204): the code of a status is its place in the table of R190, and an
error that arises on the bus ends its transaction as `State.ended`, with its completion as the only new observation.
-/

namespace Sys2Proof.Machine

/-! ### The statuses and their codes (R190) -/

/-- The rows of R190's table, in its order. -/
def Status.table : List Status :=
  [.ok, .busError, .ackInvalid, .malformedLength, .checksumError, .unexpectedReplyType, .controlMismatch,
    .truncatedResponse, .cancelled, .timeout]

/-- The code of a status is the number of its row. -/
theorem Status.table_code (st : Status) : Status.table[st.code.toNat]? = some st := by
  cases st <;> rfl

theorem Status.code_injective {st st' : Status} (h : st.code = st'.code) : st = st' := by
  have hrow : some st = some st' := by rw [← st.table_code, ← st'.table_code, h]
  exact Option.some.inj hrow

theorem Status.code_le_nine (st : Status) : st.code.toNat ≤ 9 := by
  obtain ⟨hlt, -⟩ := List.getElem?_eq_some_iff.mp st.table_code
  exact Nat.le_of_lt_succ hlt

theorem Status.isProtocolError_iff (st : Status) :
    st.isProtocolError = true ↔ 2 ≤ st.code.toNat ∧ st.code.toNat ≤ 7 := by
  simp [Status.isProtocolError]

/-- Settles O39: the codes are the row numbers of `Status.table`, which has ten rows and gives the status back. -/
theorem statusCodes : Obligations.StatusCodes :=
  ⟨rfl, rfl, rfl, rfl, rfl, rfl, rfl, rfl, rfl, rfl, fun _ _ => Status.code_injective, Status.code_le_nine,
    Status.isProtocolError_iff⟩

/-! ### An error that arises on the bus (R139, R150, R204) -/

theorem State.completionsOf_raise (s : State) (c : Cur) (st : Status) (info : BusErr) :
    completionsOf (s.raise c st info).trace = completionsOf s.trace ++ [.failed c.entry.tag st info] := by
  rw [State.raise_trace, completionsOf_append]
  rfl

theorem State.requestsOf_raise (s : State) (c : Cur) (st : Status) (info : BusErr) :
    requestsOf (s.raise c st info).trace = requestsOf s.trace := by
  rw [State.raise_trace, requestsOf_append]
  exact List.append_nil _

/-- Settles O30: `raise` is the completion of the failure and then the end of the transaction. -/
theorem raisedErrorIsOneCompletion : Obligations.RaisedErrorIsOneCompletion := fun s c st info =>
  ⟨s.complete_finishTransaction c (.failed c.entry.tag st info), s.completionsOf_raise c st info,
    s.requestsOf_raise c st info, s.raise_queue c st info⟩

end Sys2Proof.Machine
end

section
/-!
PROOFS. Reset and hazards (`70_reset_and_hazards.md` R220, R226, R239): the reset of every register, the replies that
have no step, and what `Idle` means between events.
-/

namespace Sys2Proof.Machine

/-! ### Hard reset (R38, R220) -/

/-- Settles O35: the two conditions on the straps make the sampled configuration legal, so the reset is taken. -/
theorem hardResetResetsEveryRegister : Obligations.HardResetResetsEveryRegister := by
  intro s htimeout hlen
  have hlegal : s.straps.sample.Legal := ⟨htimeout, hlen⟩
  exact if_pos hlegal

/-! ### A reply that no read awaits (R226 b, c) -/

theorem exec_rdreply (s : State) (ack len : Byte) (tail : List Byte) :
    exec (.rdreply ack len tail) s = s.offer 3 (ack :: len :: tail) := rfl

/-- Bytes offered where no read is outstanding are one response, all of them. -/
theorem State.offer_of_no_read {s : State} (k : Nat) (bs : List Byte) (h : s.outstandingRead = none) :
    s.offer (k + 1) bs = s.respond (.bytes bs) := by
  rw [State.offer, h]

theorem State.outstandingRead_of_free {s : State} (hs : s.sched ≠ .dispatching) : s.outstandingRead = none := by
  unfold State.outstandingRead
  split
  · contradiction
  · rfl

/-- No request is outstanding while the bus is free, so no response has a step there. -/
theorem State.respond_of_free {s : State} (r : BusRsp) (hs : s.sched ≠ .dispatching) :
    s.respond r = .fault .unexpectedResponse :=
  if_neg hs

/-- Bytes have the wrong shape for the answer to a `BUS_WRITE`, whatever kind of operation sent it. -/
theorem State.answer_bytes_of_write {s : State} {c : Cur} (bs : List Byte) (hph : c.phase = .phWr) :
    s.answer c (.bytes bs) = .refused .wrongShape := by
  simp [State.answer, hph, BusRsp.writeAnswer]

theorem State.respond_bytes_of_write {s : State} {c : Cur} (bs : List Byte) (hs : s.sched = .dispatching)
    (hc : s.cur = some c) (hph : c.phase = .phWr) : s.respond (.bytes bs) = .refused .wrongShape := by
  simp [State.respond, hs, hc, BusRsp.inRange, State.answer_bytes_of_write bs hph]

/-- Settles O21: with the bus free and in `PH_WR` alike no read is outstanding, so the offered bytes are one response. -/
theorem replyNeedsAnOutstandingRead : Obligations.ReplyNeedsAnOutstandingRead := by
  intro s ack len tail
  rw [exec_rdreply]
  refine ⟨fun hs => ?_, fun c hs hc hph => ?_⟩
  · rw [State.offer_of_no_read _ _ (State.outstandingRead_of_free hs), State.respond_of_free _ hs]
  · have hread : s.outstandingRead = none := by
      rw [State.outstandingRead_of_onBus hs hc, hph, State.asked]
    rw [State.offer_of_no_read _ _ hread, State.respond_bytes_of_write _ hs hc hph]

/-! ### `Idle` between events (R239) -/

/-- In `Idle` no operation is live: none is queued (R37 i), and none is on the bus. -/
theorem State.Inv.liveOperations_of_idle {s : State} (h : s.Inv) (hs : s.sched = .idle) : s.liveOperations = 0 := by
  have hqueue : s.queue = [] := h.queue_of_atDispatchPoint (by simp [State.atDispatchPoint, hs])
  obtain ⟨hcur, -, -⟩ := h.preInv.free (by simp [hs])
  simp [State.liveOperations, hqueue, hcur]

/-- Settles O50: the completions owed are those of the live operations, of which `Idle` has none. -/
theorem idleMeansEverythingIsAnswered : Obligations.IdleMeansEverythingIsAnswered := by
  intro s hinv howed hs
  refine ⟨?_, hinv.dueRequest_eq_none⟩
  rw [howed, hinv.liveOperations_of_idle hs, Nat.cast_zero]

end Sys2Proof.Machine
end
